-- ==== Sys2Proof/Word.lean ====
section
/-!
DEFINITION. The word types of the block. Nothing here computes: the field extraction, the
sign correction and the byte order stand in `Decode.lean` and `Machine/`.
-/

namespace Sys2Proof

/-- One byte, `u8` (20_memory.md R62, R63). -/
abbrev Byte := BitVec 8

/-- The one-bit `level` of an event, `true` for 1 and `false` for 0 (00_scope.md R11 `W_LEVEL`, R20). -/
abbrev Level := Bool

/-- `duration_us`: 32 bits, unsigned, microseconds (00_scope.md R11 `W_DURATION`, R20). -/
abbrev Duration := BitVec 32

/-- A candidate word as `parse_rf` returns it, 64 bits, 0 meaning "no candidate"
(00_scope.md R11 `W_CAND`, R20; 30_encoding.md R97). -/
abbrev Cand := BitVec 64

/-- One command frame of the MODEL's command stream, 80 bits. The 33-bit event word of
30_encoding.md R80 is its low part; the frame around it is the model's own
(DESIGN CHOICE, notes/assumptions/2.md). -/
abbrev Frame := BitVec 80

end Sys2Proof
end

