-- ==== Sys2Proof/Syntax.lean ====
section
/-!
DEFINITION. The syntax: the models, devices and signal classes, and the one inductive `Instr`
with one constructor for each row of spec/opcode_table.json, in the table's order; and the parties that
issue commands.
-/

namespace Sys2Proof

/-- The two sensor models (00_scope.md R2). -/
inductive Model where
  | m523
  | m609
  deriving DecidableEq, Repr, Inhabited

/-- The three devices (10_state.md R36). -/
inductive Device where
  | freezer
  | fridge
  | outdoor
  deriving DecidableEq, Repr, Inhabited

/-- The closed set of signal classes of model 00523 (10_state.md R33; no numeric codes, R84). -/
inductive Class523 where
  | bit0Off
  | bit0On
  | bit1Off
  | bit1On
  | bitstreamOff
  | bitstreamOn
  | chunkEnd
  | inv
  deriving DecidableEq, Repr

/-- The closed set of signal classes of model 00609 (10_state.md R33; no numeric codes, R84). -/
inductive Class609 where
  | off
  | bit0
  | bit1
  | bitstreamStart
  | bitstreamEnd
  | chunkStart
  | chunkEnd
  | inv
  deriving DecidableEq, Repr

/-- The instructions. A row of format `EV` is one model's `parse_rf` call on an event that the
model classifies so (30_encoding.md R81, R99): its operands are those of the event, the level
left out where the class fixes it. A row of format `CMD` is a command of 30_encoding.md R95. -/
inductive Instr where
  /-- `523.BIT_0_OFF` (R121, R174). -/
  | m523Bit0Off (duration : Duration)
  /-- `523.BIT_1_OFF` (R122, R175). -/
  | m523Bit1Off (duration : Duration)
  /-- `523.BITSTREAM_OFF` (R123, R176). -/
  | m523BitstreamOff (duration : Duration)
  /-- `523.BIT_1_ON` (R124, R172). -/
  | m523Bit1On (duration : Duration)
  /-- `523.BIT_0_ON` (R125, R171). -/
  | m523Bit0On (duration : Duration)
  /-- `523.BITSTREAM_ON` (R126, R170). -/
  | m523BitstreamOn (duration : Duration)
  /-- `523.CHUNK_END` (R127, R173). -/
  | m523ChunkEnd (duration : Duration)
  /-- `523.INV` (R128, R177), at either level. -/
  | m523Inv (level : Level) (duration : Duration)
  /-- `609.OFF` (R141, R210). -/
  | m609Off (duration : Duration)
  /-- `609.CHUNK_START` (R142, R216). -/
  | m609ChunkStart (duration : Duration)
  /-- `609.BIT_0` (R143, R211). -/
  | m609Bit0 (duration : Duration)
  /-- `609.BIT_1` (R144, R212). -/
  | m609Bit1 (duration : Duration)
  /-- `609.BITSTREAM_START` (R145, R213). -/
  | m609BitstreamStart (duration : Duration)
  /-- `609.BITSTREAM_END` (R146, R214). -/
  | m609BitstreamEnd (duration : Duration)
  /-- `609.CHUNK_END` (R147, R215). -/
  | m609ChunkEnd (duration : Duration)
  /-- `609.INV` (R148, R217), at either level. -/
  | m609Inv (level : Level) (duration : Duration)
  /-- `START`, the reset command (R350). -/
  | start
  /-- `EVENT`, one edge event delivered to the whole block (R271). -/
  | event (level : Level) (duration : Duration)
  /-- `CLEAR`, `clear()` of one model (R165, R205). -/
  | clear (model : Model)
  /-- `VALIDATE`, `validate_bitstream` of one device (R242, R262). -/
  | validate (device : Device) (candidate : Cand)
  /-- `CREATE_PAYLOAD`, `create_payload` of one device (R290). -/
  | createPayload (device : Device) (status : Byte)
  deriving DecidableEq, Repr

/-! ### Who issues a command (00_scope.md R9; 49_arithmetic.md R387) -/

/-- The two parties that issue commands. The dispatcher is a part of the block: what it issues are
the calls on the block's internal dispatch interface (48_session_interface.md R315). -/
inductive Issuer where
  | host
  | dispatcher
  deriving DecidableEq, Repr

/-- What the host can do to the core, "exactly three things" (00_scope.md R9). -/
inductive HostCommand where
  /-- "deliver an edge event" (46_dispatcher.md R270). -/
  | event (level : Level) (duration : Duration)
  /-- "command a reset" (70_reset_and_hazards.md R350). -/
  | start
  /-- "request a payload image of a device" (47_serializer.md R290). -/
  | createPayload (device : Device) (status : Byte)
  deriving DecidableEq, Repr

/-- A pending command: who issued it, and its frame (notes/assumptions/2.md). -/
structure Command where
  issuer : Issuer
  frame : Frame
  deriving DecidableEq, Repr

end Sys2Proof
end

