-- ==== Sys2Proof/Config.lean ====
section
/-!
DEFINITION. What is fixed for the life of the hardware (10_state.md R45): the structural
parameters, the classification windows, the identifiers, the validation constants and the
binding list; and the values the spec leaves open, as constants without a body.
-/

namespace Sys2Proof.Config

/-! ### Structural parameters (00_scope.md R11) -/

/-- `BIT_LENGTH_523`: bits of a 00523 block. -/
@[simp] abbrev bitLength523 : Nat := 48
/-- `BIT_LENGTH_609`: bits of a 00609 block. -/
@[simp] abbrev bitLength609 : Nat := 40
/-- `OPENER_COUNT_523`: wide ON pulses that open a 00523 chunk. -/
@[simp] abbrev openerCount523 : Nat := 4
/-- `PAYLOAD_BYTES`: size of the Payload image. -/
@[simp] abbrev payloadBytes : Nat := 14

/-! ### Windows of the 00523 classifier, microseconds (00_scope.md R12) -/

/-- `T523_MIN`. -/
@[simp] abbrev t523Min : Nat := 100
/-- `T523_SHORT_MAX`. -/
@[simp] abbrev t523ShortMax : Nat := 300
/-- `T523_LONG_MAX`. -/
@[simp] abbrev t523LongMax : Nat := 500
/-- `T523_SYNC_MAX`. -/
@[simp] abbrev t523SyncMax : Nat := 700
/-- `T523_GAP_MIN`. -/
@[simp] abbrev t523GapMin : Nat := 20000
/-- `T523_GAP_MAX`. -/
@[simp] abbrev t523GapMax : Nat := 60000

/-! ### Windows of the 00609 classifier, microseconds (00_scope.md R13) -/

/-- `T609_OFF_MAX`. -/
@[simp] abbrev t609OffMax : Nat := 1200
/-- `T609_CS_MAX`. -/
@[simp] abbrev t609CsMax : Nat := 300
/-- `T609_B0_MAX`. -/
@[simp] abbrev t609B0Max : Nat := 1200
/-- `T609_B1_MAX`. -/
@[simp] abbrev t609B1Max : Nat := 3000
/-- `T609_BS_MIN`. -/
@[simp] abbrev t609BsMin : Nat := 8700
/-- `T609_BS_MAX`. -/
@[simp] abbrev t609BsMax : Nat := 9000
/-- `T609_BE_MIN`. -/
@[simp] abbrev t609BeMin : Nat := 10000
/-- `T609_BE_MAX`. -/
@[simp] abbrev t609BeMax : Nat := 20000
/-- `T609_CE_MAX`. -/
@[simp] abbrev t609CeMax : Nat := 40000

/-- The first value that `duration_us` cannot take, `2^32`: the upper end of the windows that
30_encoding.md R82 and R83 leave open above. -/
@[simp] abbrev durationEnd : Nat := 4294967296

/-! ### Identifiers (00_scope.md R14) -/

/-- `TAG`. -/
@[simp] abbrev tag : BitVec 32 := 0x38073162#32
/-- `STATUS_UNKNOWN`. -/
@[simp] abbrev statusUnknown : Byte := 0#8
/-- `STATUS_OK`. -/
@[simp] abbrev statusOk : Byte := 1#8
/-- `STATUS_READ_FAIL`. -/
@[simp] abbrev statusReadFail : Byte := 2#8
/-- `STATUS_TIMEOUT`. -/
@[simp] abbrev statusTimeout : Byte := 3#8
/-- `STATUS_NO_DATA`. -/
@[simp] abbrev statusNoData : Byte := 4#8
/-- `SIG_FREEZER`. -/
@[simp] abbrev sigFreezer : BitVec 16 := 0xC049#16
/-- `SIG_FRIDGE`. -/
@[simp] abbrev sigFridge : BitVec 16 := 0xC07C#16

/-- `MODEL_ACURITE523` and `MODEL_ACURITE609`, the 16-bit code of a model. -/
@[simp] abbrev modelCode : Model → BitVec 16
  | .m523 => 1592#16
  | .m609 => 6585#16

/-- `DEVICE_FREEZER`, `DEVICE_FRIDGE` and `DEVICE_OUTDOOR`, the 16-bit code of a device. -/
@[simp] abbrev deviceCode : Device → BitVec 16
  | .freezer => 9690#16
  | .fridge => 7784#16
  | .outdoor => 8501#16

/-! ### Validation constants (00_scope.md R15) -/

/-- `CHANNEL_609`. -/
@[simp] abbrev channel609 : BitVec 2 := 2#2
/-- `T523_OFFSET`. -/
@[simp] abbrev t523Offset : Int := 1800
/-- `T523_DIV`. -/
@[simp] abbrev t523Div : Int := 18
/-- `T609_DIV`. -/
@[simp] abbrev t609Div : Int := 20
/-- `T609_MOD`, `0x2000`; its half is `T609_SIGN`, the weight of bit 12 of the field. -/
@[simp] abbrev t609Mod : Int := 8192
/-- `TEMP_MIN_C`, inclusive for both models. -/
@[simp] abbrev tempMinC : Int := -40
/-- `TEMP_MAX_C`, exclusive for 00523 and inclusive for 00609 (90_conflicts.md C5). -/
@[simp] abbrev tempMaxC : Int := 70
/-- `HUM_MIN`. -/
@[simp] abbrev humMin : Nat := 1
/-- `HUM_MAX`. -/
@[simp] abbrev humMax : Nat := 99

/-! ### Bindings (46_dispatcher.md R270, the order by 92_eei_decisions.md D15) -/

/-- The model a device is bound to (10_state.md R36). -/
@[simp] abbrev deviceModel : Device → Model
  | .freezer => .m523
  | .fridge => .m523
  | .outdoor => .m609

/-- The ordered list of (model, devices) bindings. -/
def bindings : List (Model × List Device) :=
  [(.m523, [.freezer, .fridge]), (.m609, [.outdoor])]

/-! ### Open values: constants without a body -/

/-- The two conventions a session driver may follow at a timeout (92_eei_decisions.md D23). -/
inductive TimeoutConvention where
  | emitTimeoutPayload
  | returnNone
  deriving DecidableEq, Repr, Inhabited

/-- `HOST_TIMEOUT_CONVENTION`, OPEN in the spec (92_eei_decisions.md D23; notes/assumptions/8.md). -/
opaque hostTimeoutConvention : TimeoutConvention

/-- The device whose record a TIMEOUT Payload serializes, "the host's choice" under D23
(notes/assumptions/8.md). -/
opaque timeoutDevice : Device

/-- What the 8-bit `bitstream_opener_count` holds after counting on from 255. Only a state that no
run reaches counts there: 10_state.md R31 has it at most 3 at rest, and 49_arithmetic.md R383
says it neither wraps nor saturates, so the spec gives no value (notes/assumptions/7.md). -/
opaque openerCountPastEnd : BitVec 8

end Sys2Proof.Config
end

