-- ==== Sys2Proof/WellFormed.lean ====
section
/-!
DEFINITION. Well-formed instructions: an `EV` row carries a duration of its window, as the rows of
30_encoding.md R82 and R83 (and of spec/opcode_table.json) list them. The `CMD` rows carry no
condition: every operand of theirs is legal (30_encoding.md R93, R95).
-/

namespace Sys2Proof

/-- `d` lies in `[lo, hi)`: "closed intervals at the low end, open at the high end"
(00_scope.md R19). -/
def inWindow (lo hi : Nat) (d : Duration) : Bool :=
  decide (lo ≤ d.toNat ∧ d.toNat < hi)

/-- The `523.INV` windows of 30_encoding.md R82, by level. -/
def inv523Windows : Level → List (Nat × Nat)
  | false => [(0, Config.t523Min), (Config.t523SyncMax, Config.durationEnd)]
  | true => [(0, Config.t523Min), (Config.t523SyncMax, Config.t523GapMin),
             (Config.t523GapMax, Config.durationEnd)]

/-- The `609.INV` windows of 30_encoding.md R83, by level. -/
def inv609Windows : Level → List (Nat × Nat)
  | false => [(Config.t609OffMax, Config.durationEnd)]
  | true => [(Config.t609B1Max, Config.t609BsMin), (Config.t609BsMax, Config.t609BeMin),
             (Config.t609CeMax, Config.durationEnd)]

/-- The check of one instruction. -/
def Instr.wellFormed : Instr → Bool
  | .m523Bit0Off d => inWindow Config.t523Min Config.t523ShortMax d
  | .m523Bit1Off d => inWindow Config.t523ShortMax Config.t523LongMax d
  | .m523BitstreamOff d => inWindow Config.t523LongMax Config.t523SyncMax d
  | .m523Bit1On d => inWindow Config.t523Min Config.t523ShortMax d
  | .m523Bit0On d => inWindow Config.t523ShortMax Config.t523LongMax d
  | .m523BitstreamOn d => inWindow Config.t523LongMax Config.t523SyncMax d
  | .m523ChunkEnd d => inWindow Config.t523GapMin Config.t523GapMax d
  | .m523Inv l d => (inv523Windows l).any fun b => inWindow b.1 b.2 d
  | .m609Off d => inWindow 0 Config.t609OffMax d
  | .m609ChunkStart d => inWindow 0 Config.t609CsMax d
  | .m609Bit0 d => inWindow Config.t609CsMax Config.t609B0Max d
  | .m609Bit1 d => inWindow Config.t609B0Max Config.t609B1Max d
  | .m609BitstreamStart d => inWindow Config.t609BsMin Config.t609BsMax d
  | .m609BitstreamEnd d => inWindow Config.t609BeMin Config.t609BeMax d
  | .m609ChunkEnd d => inWindow Config.t609BeMax Config.t609CeMax d
  | .m609Inv l d => (inv609Windows l).any fun b => inWindow b.1 b.2 d
  | .start => true
  | .event _ _ => true
  | .clear _ => true
  | .validate _ _ => true
  | .createPayload _ _ => true

end Sys2Proof
end

