-- ==== Sys2Proof/Decode.lean ====
section
/-!
DEFINITION. The two classifiers (40_classifier_523.md, 41_classifier_609.md), the command frame
and its decoder and encoder, and who may issue which command.

A frame is 80 bits: bits 79:72 the unit (which model or device), bits 71:64 the port (which
operation), bits 63:0 the operand, laid out where spec/opcode_table.json puts the fields:
`level` [32] and `duration_us` [31:0] of an event, `candidate` [63:0], `status` [7:0].
A plain event word of 30_encoding.md R80, with nothing above it, is therefore the frame of the
`EVENT` command. The bits above the operand are the MODEL's own: the spec gives the commands "no
bit encoding" (R95; DESIGN CHOICE, notes/assumptions/2.md).
-/

namespace Sys2Proof

/-! ### Classifiers -/

/-- `classify523` (40_classifier_523.md R120). -/
def classify523 (level : Level) (d : Duration) : Class523 :=
  if level = false ∧ Config.t523Min ≤ d.toNat ∧ d.toNat < Config.t523ShortMax then .bit0Off
  else if level = false ∧ Config.t523ShortMax ≤ d.toNat ∧ d.toNat < Config.t523LongMax then .bit1Off
  else if level = false ∧ Config.t523LongMax ≤ d.toNat ∧ d.toNat < Config.t523SyncMax then .bitstreamOff
  else if level = true ∧ Config.t523Min ≤ d.toNat ∧ d.toNat < Config.t523ShortMax then .bit1On
  else if level = true ∧ Config.t523ShortMax ≤ d.toNat ∧ d.toNat < Config.t523LongMax then .bit0On
  else if level = true ∧ Config.t523LongMax ≤ d.toNat ∧ d.toNat < Config.t523SyncMax then .bitstreamOn
  else if level = true ∧ Config.t523GapMin ≤ d.toNat ∧ d.toNat < Config.t523GapMax then .chunkEnd
  else .inv

/-- `classify609` (41_classifier_609.md R140). -/
def classify609 (level : Level) (d : Duration) : Class609 :=
  if level = false ∧ d.toNat < Config.t609OffMax then .off
  else if level = true ∧ d.toNat < Config.t609CsMax then .chunkStart
  else if level = true ∧ Config.t609CsMax ≤ d.toNat ∧ d.toNat < Config.t609B0Max then .bit0
  else if level = true ∧ Config.t609B0Max ≤ d.toNat ∧ d.toNat < Config.t609B1Max then .bit1
  else if level = true ∧ Config.t609BsMin ≤ d.toNat ∧ d.toNat < Config.t609BsMax then .bitstreamStart
  else if level = true ∧ Config.t609BeMin ≤ d.toNat ∧ d.toNat < Config.t609BeMax then .bitstreamEnd
  else if level = true ∧ Config.t609BeMax ≤ d.toNat ∧ d.toNat < Config.t609CeMax then .chunkEnd
  else .inv

/-- The 00523 row that an event is (30_encoding.md R81). -/
def instr523 (level : Level) (d : Duration) : Instr :=
  match classify523 level d with
  | .bit0Off => .m523Bit0Off d
  | .bit1Off => .m523Bit1Off d
  | .bitstreamOff => .m523BitstreamOff d
  | .bit1On => .m523Bit1On d
  | .bit0On => .m523Bit0On d
  | .bitstreamOn => .m523BitstreamOn d
  | .chunkEnd => .m523ChunkEnd d
  | .inv => .m523Inv level d

/-- The 00609 row that an event is (30_encoding.md R81). -/
def instr609 (level : Level) (d : Duration) : Instr :=
  match classify609 level d with
  | .off => .m609Off d
  | .chunkStart => .m609ChunkStart d
  | .bit0 => .m609Bit0 d
  | .bit1 => .m609Bit1 d
  | .bitstreamStart => .m609BitstreamStart d
  | .bitstreamEnd => .m609BitstreamEnd d
  | .chunkEnd => .m609ChunkEnd d
  | .inv => .m609Inv level d

/-! ### The frame -/

/-- The event word of 30_encoding.md R80: `level` at bit 32, `duration_us` at bits 31:0. -/
def eventWord (level : Level) (d : Duration) : BitVec 33 :=
  ((BitVec.ofBool level).setWidth 33 <<< 32) ||| d.setWidth 33

/-- A frame from its three parts. -/
def mkFrame (unit port : Byte) (operand : BitVec 64) : Frame :=
  (unit.setWidth 80 <<< 72) ||| (port.setWidth 80 <<< 64) ||| operand.setWidth 80

/-- Bits 79:72 of a frame. -/
def frameUnit (f : Frame) : Byte := f.extractLsb' 72 8

/-- Bits 71:64 of a frame. -/
def framePort (f : Frame) : Byte := f.extractLsb' 64 8

/-- Bits 63:0 of a frame. -/
def frameOperand (f : Frame) : BitVec 64 := f.extractLsb' 0 64

/-- The operand of an event: the event word of R80 with zeros above it. -/
def eventOperand (level : Level) (d : Duration) : BitVec 64 :=
  (eventWord level d).setWidth 64

/-- `level`, bit 32 (R80). -/
def operandLevel (o : BitVec 64) : Level := o.getLsbD 32

/-- `duration_us`, bits 31:0 (R80). -/
def operandDuration (o : BitVec 64) : Duration := o.extractLsb' 0 32

/-- `status`, bits 7:0 (spec/opcode_table.json, `CREATE_PAYLOAD`). -/
def operandStatus (o : BitVec 64) : Byte := o.extractLsb' 0 8

/-- Port of `EVENT`: zero, so that a plain event word is an `EVENT`. -/
def portEvent : Byte := 0#8
/-- Port of one model's `parse_rf`, the sixteen `EV` rows. -/
def portParse : Byte := 1#8
/-- Port of `START`. -/
def portStart : Byte := 2#8
/-- Port of `CLEAR`. -/
def portClear : Byte := 3#8
/-- Port of `VALIDATE`. -/
def portValidate : Byte := 4#8
/-- Port of `CREATE_PAYLOAD`. -/
def portCreatePayload : Byte := 5#8

/-- The unit number of a model. -/
def modelUnit : Model → Byte
  | .m523 => 0#8
  | .m609 => 1#8

/-- The model of a unit number. -/
def unitModel (u : Byte) : Option Model :=
  if u = 0#8 then some .m523 else if u = 1#8 then some .m609 else none

/-- The unit number of a device. -/
def deviceUnit : Device → Byte
  | .freezer => 0#8
  | .fridge => 1#8
  | .outdoor => 2#8

/-- The device of a unit number. -/
def unitDevice (u : Byte) : Option Device :=
  if u = 0#8 then some .freezer
  else if u = 1#8 then some .fridge
  else if u = 2#8 then some .outdoor
  else none

/-! ### Decoding -/

/-- Why a frame is no command of the model's command stream. -/
inductive DecodeError where
  /-- The port is none of the six. -/
  | reservedPort
  /-- The unit names no model or device of the port. -/
  | reservedUnit
  /-- An operand bit that the command does not use is 1. -/
  | reservedBits
  /-- The frame is a command, but not one that its issuer issues. -/
  | wrongIssuer
  deriving DecidableEq, Repr

/-- What a frame decodes to. -/
inductive Decoded where
  | ok (i : Instr)
  | rejected (e : DecodeError)
  deriving DecidableEq, Repr

/-- The instruction, where there is one. -/
def Decoded.toOption : Decoded → Option Instr
  | .ok i => some i
  | .rejected _ => none

/-- An event operand, its bits 63:33 zero, given to the row builder `k`. -/
def decodeEventOperand (k : Level → Duration → Instr) (o : BitVec 64) : Decoded :=
  if o = eventOperand (operandLevel o) (operandDuration o) then
    .ok (k (operandLevel o) (operandDuration o))
  else .rejected .reservedBits

/-- The decoder, total on every frame. -/
def decode (f : Frame) : Decoded :=
  if framePort f = portEvent then
    if frameUnit f = 0#8 then decodeEventOperand Instr.event (frameOperand f)
    else .rejected .reservedUnit
  else if framePort f = portParse then
    match unitModel (frameUnit f) with
    | some .m523 => decodeEventOperand instr523 (frameOperand f)
    | some .m609 => decodeEventOperand instr609 (frameOperand f)
    | none => .rejected .reservedUnit
  else if framePort f = portStart then
    if frameUnit f = 0#8 then
      if frameOperand f = 0#64 then .ok .start else .rejected .reservedBits
    else .rejected .reservedUnit
  else if framePort f = portClear then
    match unitModel (frameUnit f) with
    | some m => if frameOperand f = 0#64 then .ok (.clear m) else .rejected .reservedBits
    | none => .rejected .reservedUnit
  else if framePort f = portValidate then
    match unitDevice (frameUnit f) with
    | some dev => .ok (.validate dev (frameOperand f))
    | none => .rejected .reservedUnit
  else if framePort f = portCreatePayload then
    match unitDevice (frameUnit f) with
    | some dev =>
      if frameOperand f = (operandStatus (frameOperand f)).setWidth 64 then
        .ok (.createPayload dev (operandStatus (frameOperand f)))
      else .rejected .reservedBits
    | none => .rejected .reservedUnit
  else .rejected .reservedPort

/-! ### Encoding -/

/-- The frame of one model's `parse_rf` call on an event. -/
def parseFrame (m : Model) (level : Level) (d : Duration) : Frame :=
  mkFrame (modelUnit m) portParse (eventOperand level d)

/-- The frame of an instruction: for an `EV` row its level is the one of its window
(30_encoding.md R82, R83). -/
def encode : Instr → Frame
  | .m523Bit0Off d => parseFrame .m523 false d
  | .m523Bit1Off d => parseFrame .m523 false d
  | .m523BitstreamOff d => parseFrame .m523 false d
  | .m523Bit1On d => parseFrame .m523 true d
  | .m523Bit0On d => parseFrame .m523 true d
  | .m523BitstreamOn d => parseFrame .m523 true d
  | .m523ChunkEnd d => parseFrame .m523 true d
  | .m523Inv l d => parseFrame .m523 l d
  | .m609Off d => parseFrame .m609 false d
  | .m609ChunkStart d => parseFrame .m609 true d
  | .m609Bit0 d => parseFrame .m609 true d
  | .m609Bit1 d => parseFrame .m609 true d
  | .m609BitstreamStart d => parseFrame .m609 true d
  | .m609BitstreamEnd d => parseFrame .m609 true d
  | .m609ChunkEnd d => parseFrame .m609 true d
  | .m609Inv l d => parseFrame .m609 l d
  | .start => mkFrame 0#8 portStart 0#64
  | .event l d => mkFrame 0#8 portEvent (eventOperand l d)
  | .clear m => mkFrame (modelUnit m) portClear 0#64
  | .validate dev w => mkFrame (deviceUnit dev) portValidate w
  | .createPayload dev st => mkFrame (deviceUnit dev) portCreatePayload (st.setWidth 64)

/-! ### Who may issue what -/

/-- Who issues an instruction, by the table of 49_arithmetic.md R387: the host the three things of
00_scope.md R9; the dispatcher `CLEAR`, `VALIDATE`, one model's `parse_rf` call on an event
(46_dispatcher.md R271 item 1) and, on acceptance, `CREATE_PAYLOAD`. -/
def Instr.issuers : Instr → List Issuer
  | .m523Bit0Off _ => [.dispatcher]
  | .m523Bit1Off _ => [.dispatcher]
  | .m523BitstreamOff _ => [.dispatcher]
  | .m523Bit1On _ => [.dispatcher]
  | .m523Bit0On _ => [.dispatcher]
  | .m523BitstreamOn _ => [.dispatcher]
  | .m523ChunkEnd _ => [.dispatcher]
  | .m523Inv _ _ => [.dispatcher]
  | .m609Off _ => [.dispatcher]
  | .m609ChunkStart _ => [.dispatcher]
  | .m609Bit0 _ => [.dispatcher]
  | .m609Bit1 _ => [.dispatcher]
  | .m609BitstreamStart _ => [.dispatcher]
  | .m609BitstreamEnd _ => [.dispatcher]
  | .m609ChunkEnd _ => [.dispatcher]
  | .m609Inv _ _ => [.dispatcher]
  | .start => [.host]
  | .event _ _ => [.host]
  | .clear _ => [.dispatcher]
  | .validate _ _ => [.dispatcher]
  | .createPayload _ _ => [.host, .dispatcher]

/-- The decoder of the commands of one issuer: "fixed wiring", by which the host has no way to
attempt the dispatcher's operations (60_exceptions.md R330). -/
def decodeFor (who : Issuer) (f : Frame) : Decoded :=
  match decode f with
  | .ok i => if who ∈ i.issuers then .ok i else .rejected .wrongIssuer
  | .rejected e => .rejected e

/-- The instruction of a thing the host can do. -/
def HostCommand.instr : HostCommand → Instr
  | .event l d => .event l d
  | .start => .start
  | .createPayload dev st => .createPayload dev st

/-- A thing the host can do, as a pending command. -/
def HostCommand.command (c : HostCommand) : Command := ⟨.host, encode c.instr⟩

/-! ### The host's table words -/

/-- The frame of a word of spec/opcode_table.json: its `nbits` low bits, everything above them 0. -/
def tableFrame (nbits w : Nat) : Frame := BitVec.ofNat 80 (w % 2 ^ nbits)

/-- The pending command of a word of spec/opcode_table.json, issued by the first party that issues
it (by the host where it is no command). -/
def tableCommand (nbits w : Nat) : Command :=
  { issuer :=
      match decode (tableFrame nbits w) with
      | .ok i => i.issuers.headD .host
      | .rejected _ => .host
    frame := tableFrame nbits w }

/-- What the decoder reads from a word of spec/opcode_table.json. The table's `EV` rows are 33-bit
event words, which every model sees at once: such a word is the `EVENT` command
(notes/assumptions/3.md). -/
def decodeTableWord (nbits w : Nat) : Option Instr := (decode (tableFrame nbits w)).toOption

end Sys2Proof
end

