-- ==== Sys2Proof/Machine/State.lean ====
section
/-!
DEFINITION. The state of the block (10_state.md R30: two framing records and three device records,
"Nothing else is state"), beside it the two fields of the MODEL's own that stand for the block's
boundary (the pending commands and the outputs of a step), and the state after `START` (R43, R350).
Plain data throughout.
-/

namespace Sys2Proof.Machine

/-- `FramingState523` (10_state.md R31). -/
structure Framing523 where
  /-- `bitstream`, u64: the bits received so far, the first at bit 47. -/
  bitstream : BitVec 64
  /-- `bitstream_size`, u8: how many bits were received. -/
  bitstreamSize : BitVec 8
  /-- `bitstream_open`: written, never read, by the 00523 rules (R168). -/
  bitstreamOpen : Bool
  /-- `chunk_open`: a burst was recognised and not yet ended. -/
  chunkOpen : Bool
  /-- `last_class`: the class of the previous event. -/
  lastClass : Class523
  /-- `bitstream_opener_count`, u8: wide ON pulses counted towards the preamble. -/
  bitstreamOpenerCount : BitVec 8
  deriving DecidableEq, Repr

/-- `FramingState609` (10_state.md R32). -/
structure Framing609 where
  /-- `bitstream`, u64: the bits received so far, the first at bit 39. -/
  bitstream : BitVec 64
  /-- `bitstream_size`, u8: how many bits were received. -/
  bitstreamSize : BitVec 8
  /-- `bitstream_open`: a block is being accumulated. -/
  bitstreamOpen : Bool
  /-- `chunk_open`: a burst is in progress. -/
  chunkOpen : Bool
  /-- `last_class`: the class of the previous event. -/
  lastClass : Class609
  deriving DecidableEq, Repr

/-- A device record (10_state.md R35). `device_id` and `model_id` are one of three and one of two
16-bit codes: they are held as what they name, `Config.deviceCode` and `Config.modelCode` give
the codes (notes/assumptions/6.md). -/
structure DeviceRecord where
  /-- `device_id`, constant. -/
  deviceId : Device
  /-- `model_id`, constant. -/
  modelId : Model
  /-- `signature`, u16: constant for 00523; for 00609 0 until latched. -/
  signature : BitVec 16
  /-- `battery`, u8. -/
  battery : BitVec 8
  /-- `temp_num`, signed 16 bits: the temperature numerator over 18 or 20 (R37). -/
  tempNum : BitVec 16
  /-- `humidity`, u8: whole percent. -/
  humidity : BitVec 8
  deriving DecidableEq, Repr

/-- The reasons of a rejection (60_exceptions.md R320). -/
inductive RejectReason where
  | zero
  | signature
  | channel
  | checksum
  | parity
  | range
  deriving DecidableEq, Repr

/-- What a validator answers (00_scope.md R20). -/
inductive Result where
  | accept
  | reject (reason : RejectReason)
  deriving DecidableEq, Repr

/-- The outputs and observation points of ONE command (46_dispatcher.md R271, 60_exceptions.md
R334). The model's own field: it holds what the last command put out, and no rule of the block
reads it (DESIGN CHOICE, notes/assumptions/4.md). -/
structure Output where
  /-- The class model 00523 gave the event. -/
  class523 : Option Class523
  /-- The class model 00609 gave the event. -/
  class609 : Option Class609
  /-- The candidate `parse_rf` of 00523 returned, 0 for none (R97). -/
  cand523 : Cand
  /-- The candidate `parse_rf` of 00609 returned, 0 for none. -/
  cand609 : Cand
  /-- The validator calls of the step with their results, in order. -/
  validations : List (Device × Result)
  /-- `Accepted(device_id, …)`, or `none` for `NoPayload` (R271). -/
  accepted : Option Device
  /-- The 14 bytes of the Payload put out, on acceptance or by `CREATE_PAYLOAD`. -/
  payload : Option (List Byte)
  /-- The statistics strobe: the accepting device (R277). -/
  statsStrobe : Option Device
  deriving DecidableEq, Repr

/-- Nothing put out. -/
def Output.empty : Output where
  class523 := none
  class609 := none
  cand523 := 0#64
  cand609 := 0#64
  validations := []
  accepted := none
  payload := none
  statsStrobe := none

/-- The whole state (10_state.md R30), with the two boundary fields `input` and `out`. -/
structure State where
  /-- The 00523 framing record. -/
  f523 : Framing523
  /-- The 00609 framing record. -/
  f609 : Framing609
  /-- The FREEZER record. -/
  freezer : DeviceRecord
  /-- The FRIDGE record. -/
  fridge : DeviceRecord
  /-- The OUTDOOR record. -/
  outdoor : DeviceRecord
  /-- The commands still to be carried out, the next first, each with who issued it (20_memory.md
  R68, 70_reset_and_hazards.md R358: "A model takes commands as a sequence"). The model's own
  (notes/assumptions/2.md). -/
  input : List Command
  /-- What the last command put out. The model's own (notes/assumptions/4.md). -/
  out : Output
  deriving DecidableEq, Repr

/-- The reasons a step stops with a fault: NONE. "There is no trap entry", "errors are recovered
locally", "every step is total" (60_exceptions.md R328, 46_dispatcher.md R271), so the type has
no constructor. Safe: nothing can be proved of a fault that the hardware lacks. -/
inductive Fault where
  deriving DecidableEq, Repr

/-- The reasons a step is refused. -/
inductive Refusal where
  /-- An instruction without a meaning yet: raised by an arm of `exec` only; no arm does. Safe. -/
  | notModelled (mnemonic : String)
  /-- Raised by `step` when the next pending command of the model's own command stream is no frame
  of a command, or of one that its issuer does not issue: "there is no way for the host to attempt
  a forbidden operation" (60_exceptions.md R330; notes/assumptions/2.md). Safe: it stops where the
  hardware has no input at all. -/
  | undecodable (e : DecodeError)
  deriving DecidableEq, Repr

/-- The 00523 framing record after reset (10_state.md R43, 70_reset_and_hazards.md R350). -/
def Framing523.reset : Framing523 where
  bitstream := 0#64
  bitstreamSize := 0#8
  bitstreamOpen := false
  chunkOpen := false
  lastClass := .inv
  bitstreamOpenerCount := 0#8

/-- The 00609 framing record after reset (R43, R350). -/
def Framing609.reset : Framing609 where
  bitstream := 0#64
  bitstreamSize := 0#8
  bitstreamOpen := false
  chunkOpen := false
  lastClass := .inv

/-- The record of a device after reset (R36, R43, R350). -/
def DeviceRecord.reset (dev : Device) (signature : BitVec 16) : DeviceRecord where
  deviceId := dev
  modelId := Config.deviceModel dev
  signature := signature
  battery := 0#8
  tempNum := 0#16
  humidity := 0#8

/-- The machine right after reset: the state `START` leaves (R43, R350; before the first `START`
nothing is defined, R351), no command pending, nothing put out. -/
def State.reset : State where
  f523 := Framing523.reset
  f609 := Framing609.reset
  freezer := DeviceRecord.reset .freezer Config.sigFreezer
  fridge := DeviceRecord.reset .fridge Config.sigFridge
  outdoor := DeviceRecord.reset .outdoor 0#16
  input := []
  out := Output.empty

end Sys2Proof.Machine
end

