-- ==== Sys2Proof/Machine/Flags.lean ====
section
/-!
DEFINITION. The operations that write the block's only flags, `chunk_open` and `bitstream_open` of
each framing record (10_state.md R40): the helper procedures of 42_framing_523.md R162 and
43_framing_609.md R202, and `clear()` of each model (R165, R205).
-/

namespace Sys2Proof.Machine

/-! ### Model 00523 (R162, R165) -/

/-- `open_chunk` of model 00523. -/
def openChunk523 (s : Framing523) : Framing523 :=
  { s with chunkOpen := true, bitstreamOpen := true, bitstream := 0#64, bitstreamSize := 0#8 }

/-- `close_bitstream` of model 00523. -/
def closeBitstream523 (s : Framing523) : Framing523 :=
  { s with bitstreamOpen := false, bitstream := 0#64, bitstreamSize := 0#8 }

/-- `close_chunk` of model 00523; it zeroes the opener count too. -/
def closeChunk523 (s : Framing523) : Framing523 :=
  { s with chunkOpen := false, bitstreamOpen := false, bitstream := 0#64, bitstreamSize := 0#8,
           bitstreamOpenerCount := 0#8 }

/-- `clear()` of model 00523: everything but `chunk_open` (R165). -/
def clear523 (s : Framing523) : Framing523 :=
  { s with bitstream := 0#64, bitstreamSize := 0#8, bitstreamOpen := false, lastClass := .inv,
           bitstreamOpenerCount := 0#8 }

/-! ### Model 00609 (R202, R205) -/

/-- `open_bitstream` of model 00609. -/
def openBitstream609 (s : Framing609) : Framing609 :=
  { s with bitstreamOpen := true, bitstream := 0#64, bitstreamSize := 0#8 }

/-- `open_chunk` of model 00609, "which also opens a bitstream". -/
def openChunk609 (s : Framing609) : Framing609 :=
  openBitstream609 { s with chunkOpen := true }

/-- `close_bitstream` of model 00609. -/
def closeBitstream609 (s : Framing609) : Framing609 :=
  { s with bitstreamOpen := false, bitstream := 0#64, bitstreamSize := 0#8 }

/-- `close_chunk` of model 00609. -/
def closeChunk609 (s : Framing609) : Framing609 :=
  closeBitstream609 { s with chunkOpen := false }

/-- `clear()` of model 00609: everything (R205). -/
def clear609 (s : Framing609) : Framing609 :=
  { s with bitstream := 0#64, bitstreamSize := 0#8, bitstreamOpen := false, chunkOpen := false,
           lastClass := .inv }

end Sys2Proof.Machine
end

