-- ==== Sys2Proof/Machine/Operands.lean ====
section
/-!
DEFINITION. The operand forms: the fields of the two candidate words (30_encoding.md R85, R86),
the values assembled from them (R87, R88, R90), and the little-endian byte split of the Payload
(20_memory.md R63).
-/

namespace Sys2Proof.Machine

/-- `w[hi:lo]`, the bit range of 00_scope.md R17, given by its low end and its width. -/
def field (w : Cand) (lo width : Nat) : BitVec width := w.extractLsb' lo width

/-- `popcount(v)`: the number of 1 bits (R18). -/
def popcount {n : Nat} (v : BitVec n) : Nat := (List.range n).countP fun i => v.getLsbD i

/-- Byte `B k` of a candidate, counted from the least significant end: `w[8k+7:8k]` (R17). -/
def lane (w : Cand) (k : Nat) : Byte := field w (8 * k) 8

/-- The low byte of the sum of the given byte lanes, as an integer: the sum is taken over unsigned
integers and reduced `mod 256` (30_encoding.md R90). -/
def laneSum (w : Cand) (lanes : List Nat) : Nat :=
  ((lanes.map fun k => (lane w k).toNat).sum) % 256

/-! ### Format C523 (30_encoding.md R85) -/

/-- `signature`, bits 47:32. -/
def c523Signature (w : Cand) : BitVec 16 := field w 32 16
/-- `battery`, bits 31:30. -/
def c523Battery (w : Cand) : BitVec 2 := field w 30 2
/-- `unused`, bits 29:24: no check reads it; it enters the checksum with lane 3 (R93). -/
def c523Unused (w : Cand) : BitVec 6 := field w 24 6
/-- `parity2`, bit 23. -/
def c523Parity2 (w : Cand) : BitVec 1 := field w 23 1
/-- `byte2`, bits 22:16. -/
def c523Byte2 (w : Cand) : BitVec 7 := field w 16 7
/-- `parity1`, bit 15. -/
def c523Parity1 (w : Cand) : BitVec 1 := field w 15 1
/-- `byte1`, bits 14:8. -/
def c523Byte1 (w : Cand) : BitVec 7 := field w 8 7
/-- `checksum`, bits 7:0. -/
def c523Checksum (w : Cand) : BitVec 8 := field w 0 8

/-- The raw temperature, `(byte2 << 7) | byte1`, 14 bits unsigned (R87). -/
def c523Raw (w : Cand) : BitVec 14 :=
  ((c523Byte2 w).setWidth 14 <<< 7) ||| (c523Byte1 w).setWidth 14

/-- `t = raw - 1800` (44_validator_523.md R236). -/
def c523Temp (w : Cand) : Int := ((c523Raw w).toNat : Int) - Config.t523Offset

/-- The bits a 00523 validator reads, `w[47:0]` (R230). -/
def c523Word (w : Cand) : BitVec 48 := field w 0 48

/-! ### Format C609 (30_encoding.md R86) -/

/-- `signature`, bits 39:32. -/
def c609Signature (w : Cand) : BitVec 8 := field w 32 8
/-- `battery`, bits 31:30. -/
def c609Battery (w : Cand) : BitVec 2 := field w 30 2
/-- `channel`, bits 29:28. -/
def c609Channel (w : Cand) : BitVec 2 := field w 28 2
/-- `temp13`, bits 27:15. -/
def c609Temp13 (w : Cand) : BitVec 13 := field w 15 13
/-- `hum`, bits 14:8. -/
def c609Hum (w : Cand) : BitVec 7 := field w 8 7
/-- `checksum`, bits 7:0. -/
def c609Checksum (w : Cand) : BitVec 8 := field w 0 8

/-- The sign-corrected temperature (R88, 45_validator_609.md R255): the test is on the one bit
`w[27]`. -/
def c609Temp (w : Cand) : Int :=
  if w.getLsbD 27 then ((c609Temp13 w).toNat : Int) - Config.t609Mod else ((c609Temp13 w).toNat : Int)

/-- The bits a 00609 validator reads, `w[39:0]` (R250). -/
def c609Word (w : Cand) : BitVec 40 := field w 0 40

/-! ### Byte split -/

/-- A 16-bit field as two bytes, least significant first (20_memory.md R63). -/
def bytesLE16 (v : BitVec 16) : List Byte := [v.extractLsb' 0 8, v.extractLsb' 8 8]

/-- A 32-bit field as four bytes, least significant first (20_memory.md R63). -/
def bytesLE32 (v : BitVec 32) : List Byte :=
  [v.extractLsb' 0 8, v.extractLsb' 8 8, v.extractLsb' 16 8, v.extractLsb' 24 8]

end Sys2Proof.Machine
end

