-- ==== Sys2Proof/Machine/Ops.lean ====
section
/-!
DEFINITION. The shared operations over the state: reading and writing a device record, the command
stream, floor division, and what a `parse_rf` call leaves in the whole state.

The block has no memory and no exception entry (20_memory.md R60, 60_exceptions.md R328): what
stands in their place is `accept` of `Machine/Dispatcher.lean` and the rejection of
`Machine/Validate.lean`, which writes nothing (R322).
-/

namespace Sys2Proof.Machine

/-- The record of a device. -/
def State.device (s : State) : Device → DeviceRecord
  | .freezer => s.freezer
  | .fridge => s.fridge
  | .outdoor => s.outdoor

/-- The state with the record of a device replaced. -/
def State.setDevice (s : State) (dev : Device) (r : DeviceRecord) : State :=
  match dev with
  | .freezer => { s with freezer := r }
  | .fridge => { s with fridge := r }
  | .outdoor => { s with outdoor := r }

/-- The candidate that a model's framing machine returned in this step. -/
def Output.cand (o : Output) : Model → Cand
  | .m523 => o.cand523
  | .m609 => o.cand609

/-- The next pending command and the state with it taken, or `none` when the block is idle. -/
def fetch (s : State) : Option (Command × State) :=
  match s.input with
  | [] => none
  | c :: rest => some (c, { s with input := rest })

/-- The state with a command put where `fetch` takes the next one. -/
def putNext (s : State) (c : Command) : State := { s with input := c :: s.input }

/-- `floor_div(a, b)` for a positive `b`: rounded towards minus infinity (00_scope.md R18,
49_arithmetic.md R382). -/
def floorDiv (a b : Int) : Int := Int.fdiv a b

/-- What a `parse_rf` call of model 00523 leaves in the whole state: the framing record it
returned, its class and its candidate at the observation points, and nothing else. -/
def framed523 (s : State) (c : Class523) (r : Framing523 × Cand) : State :=
  { s with f523 := r.1, out := { Output.empty with class523 := some c, cand523 := r.2 } }

/-- What a `parse_rf` call of model 00609 leaves in the whole state. -/
def framed609 (s : State) (c : Class609) (r : Framing609 × Cand) : State :=
  { s with f609 := r.1, out := { Output.empty with class609 := some c, cand609 := r.2 } }

end Sys2Proof.Machine
end

