-- ==== Sys2Proof/Machine/Framing523.lean ====
section
/-!
DEFINITION. The framing machine of model 00523 (42_framing_523.md): `parse_rf_523` as R161 composes
it, which the dispatcher runs, and the eight classes one by one as R170 to R178 state them, which
are the meanings of the eight `523.*` rows. That the two say the same is a statement for the
provers.
-/

namespace Sys2Proof.Machine

/-! ### Shared pieces -/

/-- `bitstream_opener_count + 1` in its 8 bits. Counting on from 255, which no run does, gives a
free value (`Config.openerCountPastEnd`). -/
def bumpOpener523 (s : Framing523) : Framing523 :=
  { s with bitstreamOpenerCount :=
      if s.bitstreamOpenerCount = 255#8 then Config.openerCountPastEnd
      else s.bitstreamOpenerCount + 1#8 }

/-- One counted `BITSTREAM_ON` (R170): the count goes up; at 4 it returns to 0 and a chunk opens
if none is open. -/
def countOpener523 (s : Framing523) : Framing523 :=
  let s1 := bumpOpener523 s
  if s1.bitstreamOpenerCount.toNat = Config.openerCount523 then
    let s2 := { s1 with bitstreamOpenerCount := 0#8 }
    if s2.chunkOpen then s2 else openChunk523 s2
  else s1

/-- Store one bit at position `47 - size` and, at the 48th, emit and close the bitstream
(R164, R166). A 0 bit stores nothing: its position is already 0. -/
def storeBit523 (s : Framing523) (bit : Bool) : Framing523 × Cand :=
  let s1 : Framing523 :=
    { s with
      bitstream :=
        if bit then s.bitstream ||| (1#64 <<< (Config.bitLength523 - 1 - s.bitstreamSize.toNat))
        else s.bitstream
      bitstreamSize := s.bitstreamSize + 1#8 }
  if s1.bitstreamSize.toNat = Config.bitLength523 then (closeBitstream523 s1, s1.bitstream)
  else (s1, 0#64)

/-! ### The step as a whole (R161) -/

/-- The transition part of R161: everything before `last_class` is written. -/
def transition523 (s : Framing523) (cur : Class523) : Framing523 × Cand :=
  if cur = .bitstreamOn ∧ (s.lastClass = .bitstreamOff ∨ s.chunkOpen = false) then
    (countOpener523 s, 0#64)
  else if s.chunkOpen = true ∧ s.lastClass = .bit0Off then
    if cur = .bit0On then
      if s.bitstreamSize.toNat < Config.bitLength523 then storeBit523 s false else (s, 0#64)
    else if cur = .bit1On then
      if s.bitstreamSize.toNat = Config.bitLength523 then (closeBitstream523 s, s.bitstream)
      else (s, 0#64)
    else if cur = .chunkEnd then
      (closeChunk523 s, if s.bitstreamSize.toNat = Config.bitLength523 then s.bitstream else 0#64)
    else ({ s with bitstreamOpenerCount := 0#8 }, 0#64)
  else if s.chunkOpen = true ∧ s.lastClass = .bit1Off then
    if cur = .bit1On ∧ s.bitstreamSize.toNat < Config.bitLength523 then storeBit523 s true
    else (s, 0#64)
  else (s, 0#64)

/-- `s.last_class <- cur`, the last write of every call (R163), on a framing record with its
candidate. -/
def withLast523 (r : Framing523 × Cand) (cur : Class523) : Framing523 × Cand :=
  ({ r.1 with lastClass := cur }, r.2)

/-- `parse_rf_523` (R161): the framing record and the returned candidate. -/
def parseRf523 (s : Framing523) (level : Level) (d : Duration) : Framing523 × Cand :=
  withLast523 (transition523 s (classify523 level d)) (classify523 level d)

/-! ### The classes (R170 to R178) -/

/-- The "any other class" arm (R178): the opener count returns to 0 after a `BIT_0_OFF` in an open
chunk. -/
def otherClass523 (s : Framing523) : Framing523 :=
  if s.chunkOpen = true ∧ s.lastClass = .bit0Off then { s with bitstreamOpenerCount := 0#8 } else s

/-- `BITSTREAM_ON` (R170). -/
def onBitstreamOn523 (s : Framing523) : Framing523 × Cand :=
  withLast523
    (if s.lastClass = .bitstreamOff ∨ s.chunkOpen = false then countOpener523 s
     else otherClass523 s, 0#64) .bitstreamOn

/-- `BIT_0_ON` (R171). -/
def onBit0On523 (s : Framing523) : Framing523 × Cand :=
  withLast523
    (if s.chunkOpen = true ∧ s.lastClass = .bit0Off ∧ s.bitstreamSize.toNat < Config.bitLength523
     then storeBit523 s false else (s, 0#64)) .bit0On

/-- `BIT_1_ON` (R172); its second clause is dead in every reachable state (R180). -/
def onBit1On523 (s : Framing523) : Framing523 × Cand :=
  withLast523
    (if s.chunkOpen = true ∧ s.lastClass = .bit1Off ∧ s.bitstreamSize.toNat < Config.bitLength523
     then storeBit523 s true
     else if s.chunkOpen = true ∧ s.lastClass = .bit0Off ∧
         s.bitstreamSize.toNat = Config.bitLength523
     then (closeBitstream523 s, s.bitstream)
     else (s, 0#64)) .bit1On

/-- `CHUNK_END` (R173); its emission is dead in every reachable state (R180). -/
def onChunkEnd523 (s : Framing523) : Framing523 × Cand :=
  withLast523
    (if s.chunkOpen = true ∧ s.lastClass = .bit0Off then
       (closeChunk523 s, if s.bitstreamSize.toNat = Config.bitLength523 then s.bitstream else 0#64)
     else (s, 0#64)) .chunkEnd

/-- `BIT_0_OFF` (R174). -/
def onBit0Off523 (s : Framing523) : Framing523 × Cand :=
  withLast523 (otherClass523 s, 0#64) .bit0Off

/-- `BIT_1_OFF` (R175). -/
def onBit1Off523 (s : Framing523) : Framing523 × Cand :=
  withLast523 (otherClass523 s, 0#64) .bit1Off

/-- `BITSTREAM_OFF` (R176). -/
def onBitstreamOff523 (s : Framing523) : Framing523 × Cand :=
  withLast523 (otherClass523 s, 0#64) .bitstreamOff

/-- `INV` (R177): a framing violation is recovered locally, with no output and no trap. -/
def onInv523 (s : Framing523) : Framing523 × Cand :=
  withLast523 (otherClass523 s, 0#64) .inv

/-! ### The meanings of the rows -/

/-- `523.BIT_0_OFF` (R174). -/
def execM523Bit0Off (_d : Duration) (s : State) : Host.Outcome State Fault Refusal :=
  .next (framed523 s .bit0Off (onBit0Off523 s.f523))

/-- `523.BIT_1_OFF` (R175). -/
def execM523Bit1Off (_d : Duration) (s : State) : Host.Outcome State Fault Refusal :=
  .next (framed523 s .bit1Off (onBit1Off523 s.f523))

/-- `523.BITSTREAM_OFF` (R176). -/
def execM523BitstreamOff (_d : Duration) (s : State) : Host.Outcome State Fault Refusal :=
  .next (framed523 s .bitstreamOff (onBitstreamOff523 s.f523))

/-- `523.BIT_1_ON` (R172). -/
def execM523Bit1On (_d : Duration) (s : State) : Host.Outcome State Fault Refusal :=
  .next (framed523 s .bit1On (onBit1On523 s.f523))

/-- `523.BIT_0_ON` (R171). -/
def execM523Bit0On (_d : Duration) (s : State) : Host.Outcome State Fault Refusal :=
  .next (framed523 s .bit0On (onBit0On523 s.f523))

/-- `523.BITSTREAM_ON` (R170). -/
def execM523BitstreamOn (_d : Duration) (s : State) : Host.Outcome State Fault Refusal :=
  .next (framed523 s .bitstreamOn (onBitstreamOn523 s.f523))

/-- `523.CHUNK_END` (R173). -/
def execM523ChunkEnd (_d : Duration) (s : State) : Host.Outcome State Fault Refusal :=
  .next (framed523 s .chunkEnd (onChunkEnd523 s.f523))

/-- `523.INV` (R177). -/
def execM523Inv (_l : Level) (_d : Duration) (s : State) : Host.Outcome State Fault Refusal :=
  .next (framed523 s .inv (onInv523 s.f523))

end Sys2Proof.Machine
end

