-- ==== Sys2Proof/Machine/Framing609.lean ====
section
/-!
DEFINITION. The framing machine of model 00609 (43_framing_609.md): `parse_rf_609` as R201 composes
it, which the dispatcher runs, and the eight classes one by one as R210 to R217 state them, which
are the meanings of the eight `609.*` rows.
-/

namespace Sys2Proof.Machine

/-- Store one bit at position `39 - size` and, at the 40th, emit and close the bitstream
(R204, R206). -/
def storeBit609 (s : Framing609) (bit : Bool) : Framing609 × Cand :=
  let s1 : Framing609 :=
    { s with
      bitstream :=
        if bit then s.bitstream ||| (1#64 <<< (Config.bitLength609 - 1 - s.bitstreamSize.toNat))
        else s.bitstream
      bitstreamSize := s.bitstreamSize + 1#8 }
  if s1.bitstreamSize.toNat = Config.bitLength609 then (closeBitstream609 s1, s1.bitstream)
  else (s1, 0#64)

/-- "emit buffer if full": the buffer when the size is 40, else 0. -/
def emitIfFull609 (s : Framing609) : Cand :=
  if s.bitstreamSize.toNat = Config.bitLength609 then s.bitstream else 0#64

/-- `s.last_class <- cur`, the last write of every call (R203). -/
def withLast609 (r : Framing609 × Cand) (cur : Class609) : Framing609 × Cand :=
  ({ r.1 with lastClass := cur }, r.2)

/-! ### The step as a whole (R201) -/

/-- The transition part of R201: everything before `last_class` is written. -/
def transition609 (s : Framing609) (cur : Class609) : Framing609 × Cand :=
  if s.lastClass = .off then
    if cur = .bitstreamStart then
      if s.chunkOpen = false then (openChunk609 s, 0#64)
      else if s.bitstreamOpen = false then (openBitstream609 s, emitIfFull609 s)
      else (s, 0#64)
    else if cur = .bitstreamEnd then
      if s.chunkOpen = true ∧ s.bitstreamOpen = true then (closeBitstream609 s, emitIfFull609 s)
      else (s, 0#64)
    else if cur = .chunkEnd then
      if s.chunkOpen = true then (closeChunk609 s, emitIfFull609 s) else (s, 0#64)
    else if cur = .bit0 ∨ cur = .bit1 then
      if s.chunkOpen = true ∧ s.bitstreamOpen = true ∧
          s.bitstreamSize.toNat < Config.bitLength609
      then storeBit609 s (decide (cur = .bit1)) else (s, 0#64)
    else (s, 0#64)
  else (s, 0#64)

/-- `parse_rf_609` (R201): the framing record and the returned candidate. -/
def parseRf609 (s : Framing609) (level : Level) (d : Duration) : Framing609 × Cand :=
  withLast609 (transition609 s (classify609 level d)) (classify609 level d)

/-! ### The classes (R210 to R217) -/

/-- `OFF` (R210): only `last_class`. -/
def onOff609 (s : Framing609) : Framing609 × Cand := withLast609 (s, 0#64) .off

/-- `CHUNK_START` (R216): only `last_class`; it opens nothing (90_conflicts.md C8). -/
def onChunkStart609 (s : Framing609) : Framing609 × Cand := withLast609 (s, 0#64) .chunkStart

/-- A data bit is taken: the gate, the chunk and the bitstream open, and room left
(R211, R212). -/
def takesBit609 (s : Framing609) : Bool :=
  decide (s.lastClass = .off) && s.chunkOpen && s.bitstreamOpen &&
    decide (s.bitstreamSize.toNat < Config.bitLength609)

/-- `BIT_0` (R211). -/
def onBit0609 (s : Framing609) : Framing609 × Cand :=
  withLast609 (if takesBit609 s then storeBit609 s false else (s, 0#64)) .bit0

/-- `BIT_1` (R212). -/
def onBit1609 (s : Framing609) : Framing609 × Cand :=
  withLast609 (if takesBit609 s then storeBit609 s true else (s, 0#64)) .bit1

/-- `BITSTREAM_START` (R213); its emission is dead in every reachable state (R220). -/
def onBitstreamStart609 (s : Framing609) : Framing609 × Cand :=
  withLast609
    (if s.lastClass = .off ∧ s.chunkOpen = false then (openChunk609 s, 0#64)
     else if s.lastClass = .off ∧ s.bitstreamOpen = false then
       (openBitstream609 s, emitIfFull609 s)
     else (s, 0#64)) .bitstreamStart

/-- `BITSTREAM_END` (R214); its emission is dead in every reachable state (R220). -/
def onBitstreamEnd609 (s : Framing609) : Framing609 × Cand :=
  withLast609
    (if s.lastClass = .off ∧ s.chunkOpen = true ∧ s.bitstreamOpen = true then
       (closeBitstream609 s, emitIfFull609 s)
     else (s, 0#64)) .bitstreamEnd

/-- `CHUNK_END` (R215); its emission is dead in every reachable state (R220). -/
def onChunkEnd609 (s : Framing609) : Framing609 × Cand :=
  withLast609
    (if s.lastClass = .off ∧ s.chunkOpen = true then (closeChunk609 s, emitIfFull609 s)
     else (s, 0#64)) .chunkEnd

/-- `INV` (R217): only `last_class`; it disarms the gate. -/
def onInv609 (s : Framing609) : Framing609 × Cand := withLast609 (s, 0#64) .inv

/-! ### The meanings of the rows -/

/-- `609.OFF` (R210). -/
def execM609Off (_d : Duration) (s : State) : Host.Outcome State Fault Refusal :=
  .next (framed609 s .off (onOff609 s.f609))

/-- `609.CHUNK_START` (R216). -/
def execM609ChunkStart (_d : Duration) (s : State) : Host.Outcome State Fault Refusal :=
  .next (framed609 s .chunkStart (onChunkStart609 s.f609))

/-- `609.BIT_0` (R211). -/
def execM609Bit0 (_d : Duration) (s : State) : Host.Outcome State Fault Refusal :=
  .next (framed609 s .bit0 (onBit0609 s.f609))

/-- `609.BIT_1` (R212). -/
def execM609Bit1 (_d : Duration) (s : State) : Host.Outcome State Fault Refusal :=
  .next (framed609 s .bit1 (onBit1609 s.f609))

/-- `609.BITSTREAM_START` (R213). -/
def execM609BitstreamStart (_d : Duration) (s : State) : Host.Outcome State Fault Refusal :=
  .next (framed609 s .bitstreamStart (onBitstreamStart609 s.f609))

/-- `609.BITSTREAM_END` (R214). -/
def execM609BitstreamEnd (_d : Duration) (s : State) : Host.Outcome State Fault Refusal :=
  .next (framed609 s .bitstreamEnd (onBitstreamEnd609 s.f609))

/-- `609.CHUNK_END` (R215). -/
def execM609ChunkEnd (_d : Duration) (s : State) : Host.Outcome State Fault Refusal :=
  .next (framed609 s .chunkEnd (onChunkEnd609 s.f609))

/-- `609.INV` (R217). -/
def execM609Inv (_l : Level) (_d : Duration) (s : State) : Host.Outcome State Fault Refusal :=
  .next (framed609 s .inv (onInv609 s.f609))

end Sys2Proof.Machine
end

