-- ==== Sys2Proof/Machine/Serializer.lean ====
section
/-!
DEFINITION. The sensor-record serializer `create_payload` (47_serializer.md) and the meaning of
`CREATE_PAYLOAD`.
-/

namespace Sys2Proof.Machine

/-- The denominator of a model's temperature numerator (10_state.md R37). -/
def tempDiv : Model → Int
  | .m523 => Config.t523Div
  | .m609 => Config.t609Div

/-- Field `temperature`: tenths of a degree, rounded towards minus infinity, in 16-bit two's
complement (R297; 93_implementation_defined.md GK1, notes/assumptions/9.md). -/
def payloadTemperature (r : DeviceRecord) : BitVec 16 :=
  BitVec.ofInt 16 (floorDiv (r.tempNum.toInt * 10) (tempDiv r.modelId))

/-- Field `humidity`: tenths of a percent; 0 for 00523 (R298). -/
def payloadHumidity (r : DeviceRecord) : BitVec 16 :=
  match r.modelId with
  | .m523 => 0#16
  | .m609 => BitVec.ofNat 16 (r.humidity.toNat * 10)

/-- `create_payload` (R290, R300): the 14 bytes, byte 0 first. -/
def createPayload (r : DeviceRecord) (status : Byte) : List Byte :=
  bytesLE32 Config.tag ++ bytesLE16 (Config.modelCode r.modelId) ++
    bytesLE16 (Config.deviceCode r.deviceId) ++ [status, r.battery] ++
    bytesLE16 (payloadTemperature r) ++ bytesLE16 (payloadHumidity r)

/-- `CREATE_PAYLOAD` (R290, R291): the image of the record as it stands; no state of the block is
written. -/
def execCreatePayload (dev : Device) (status : Byte) (s : State) :
    Host.Outcome State Fault Refusal :=
  .next { s with out := { Output.empty with payload := some (createPayload (s.device dev) status) } }

end Sys2Proof.Machine
end

