-- ==== Sys2Proof/Machine/Validate.lean ====
section
/-!
DEFINITION. The device validators (44_validator_523.md, 45_validator_609.md) and the meaning of
`VALIDATE`. The checks are applied in their listed order and the first that fails ends the
validation with its reason (R231, R250); a rejection writes nothing (60_exceptions.md R322).
-/

namespace Sys2Proof.Machine

/-! ### Model 00523 -/

/-- The checks of R232 to R236, fail-fast. -/
def check523 (r : DeviceRecord) (w : Cand) : Result :=
  if c523Word w = 0#48 then .reject .zero
  else if c523Signature w ≠ r.signature then .reject .signature
  else if laneSum w [5, 4, 3, 2, 1] ≠ (c523Checksum w).toNat then .reject .checksum
  else if popcount (c523Byte1 w) % 2 ≠ (c523Parity1 w).toNat then .reject .parity
  else if popcount (c523Byte2 w) % 2 ≠ (c523Parity2 w).toNat then .reject .parity
  else if ¬ (Config.tempMinC * Config.t523Div ≤ c523Temp w ∧
      c523Temp w < Config.tempMaxC * Config.t523Div) then .reject .range
  else .accept

/-- The latches of R237 and R238. -/
def latch523 (r : DeviceRecord) (w : Cand) : DeviceRecord :=
  { r with battery := (c523Battery w).setWidth 8, tempNum := BitVec.ofInt 16 (c523Temp w) }

/-- `validate523` (R242): the result and the record it leaves. -/
def validate523 (r : DeviceRecord) (w : Cand) : Result × DeviceRecord :=
  match check523 r w with
  | .accept => (.accept, latch523 r w)
  | .reject reason => (.reject reason, r)

/-! ### Model 00609 -/

/-- The checks of R251 to R256 in their order. -/
def check609 (r : DeviceRecord) (w : Cand) : Result :=
  if c609Word w = 0#40 then .reject .zero
  else if r.signature ≠ 0#16 ∧ (c609Signature w).setWidth 16 ≠ r.signature then
    .reject .signature
  else if c609Channel w ≠ Config.channel609 then .reject .channel
  else if laneSum w [4, 3, 2, 1] ≠ (c609Checksum w).toNat then .reject .checksum
  else if ¬ (Config.humMin ≤ (c609Hum w).toNat ∧ (c609Hum w).toNat ≤ Config.humMax ∧
      Config.tempMinC * Config.t609Div ≤ c609Temp w ∧
      c609Temp w ≤ Config.tempMaxC * Config.t609Div) then .reject .range
  else .accept

/-- The latches of R257 to R260; the signature only if it is not yet set. -/
def latch609 (r : DeviceRecord) (w : Cand) : DeviceRecord :=
  { r with
    signature := if r.signature = 0#16 then (c609Signature w).setWidth 16 else r.signature
    battery := (c609Battery w).setWidth 8
    humidity := (c609Hum w).setWidth 8
    tempNum := BitVec.ofInt 16 (c609Temp w) }

/-- `validate609` (R262): the result and the record it leaves. -/
def validate609 (r : DeviceRecord) (w : Cand) : Result × DeviceRecord :=
  match check609 r w with
  | .accept => (.accept, latch609 r w)
  | .reject reason => (.reject reason, r)

/-! ### One validator call -/

/-- The validator of a device: that of the model it is bound to (10_state.md R36). -/
def runValidator (dev : Device) (r : DeviceRecord) (w : Cand) : Result × DeviceRecord :=
  match Config.deviceModel dev with
  | .m523 => validate523 r w
  | .m609 => validate609 r w

/-- One validator call on the whole state: the record it leaves, and the call with its result at
the observation point. -/
def validateDevice (s : State) (dev : Device) (w : Cand) : State :=
  let v := runValidator dev (s.device dev) w
  let s1 := s.setDevice dev v.2
  { s1 with out := { s1.out with validations := s1.out.validations ++ [(dev, v.1)] } }

/-- `VALIDATE` (R242, R262): the validator alone; what follows an acceptance is the dispatcher's
(R271). -/
def execValidate (dev : Device) (w : Cand) (s : State) : Host.Outcome State Fault Refusal :=
  .next (validateDevice { s with out := Output.empty } dev w)

end Sys2Proof.Machine
end

