-- ==== Sys2Proof/Machine/Dispatcher.lean ====
section
/-!
DEFINITION. The dispatcher (46_dispatcher.md): the step of the whole block on one edge event, and
the meanings of `EVENT`, `CLEAR` and `START`.
-/

namespace Sys2Proof.Machine

/-- `accept(S, dev)` of R271: the Payload of the record just latched, with `status = OK`; the
statistics strobe; `clear()` on every model. -/
def accept (s : State) (dev : Device) : State :=
  { s with
    f523 := clear523 s.f523
    f609 := clear609 s.f609
    out := { s.out with
      accepted := some (s.device dev).deviceId
      payload := some (createPayload (s.device dev) Config.statusOk)
      statsStrobe := some (s.device dev).deviceId } }

/-- Walk a model's devices in order with its candidate: the first that accepts claims the word
(R271 item 2). The flag says whether one did. -/
def offer (w : Cand) : List Device → State → State × Bool
  | [], s => (s, false)
  | dev :: rest, s =>
    if (runValidator dev (s.device dev) w).1 = .accept then
      (accept (validateDevice s dev w) dev, true)
    else offer w rest (validateDevice s dev w)

/-- Poll the models in registration order (R271, R272): a non-zero candidate goes to the devices of
its own model only (R273), and the first acceptance ends the step. -/
def dispatch : List (Model × List Device) → State → State
  | [], s => s
  | (m, devs) :: rest, s =>
    if s.out.cand m = 0#64 then dispatch rest s
    else if (offer (s.out.cand m) devs s).2 then (offer (s.out.cand m) devs s).1
    else dispatch rest (offer (s.out.cand m) devs s).1

/-- Item 1 of R271: both framing machines take the event (R274); their classes and candidates
stand at the observation points. -/
def frameEvent (s : State) (level : Level) (d : Duration) : State :=
  { s with
    f523 := (parseRf523 s.f523 level d).1
    f609 := (parseRf609 s.f609 level d).1
    out := { Output.empty with
      class523 := some (classify523 level d)
      class609 := some (classify609 level d)
      cand523 := (parseRf523 s.f523 level d).2
      cand609 := (parseRf609 s.f609 level d).2 } }

/-- The step of the whole block on one event (R271). -/
def eventStep (s : State) (level : Level) (d : Duration) : State :=
  dispatch Config.bindings (frameEvent s level d)

/-- `EVENT` (R271). -/
def execEvent (level : Level) (d : Duration) (s : State) : Host.Outcome State Fault Refusal :=
  .next (eventStep s level d)

/-- `CLEAR` (R165, R205): `clear()` of one model. -/
def execClear (m : Model) (s : State) : Host.Outcome State Fault Refusal :=
  match m with
  | .m523 => .next { s with f523 := clear523 s.f523, out := Output.empty }
  | .m609 => .next { s with f609 := clear609 s.f609, out := Output.empty }

/-- `START` (70_reset_and_hazards.md R350): every field of the block takes its reset value; the
further pending commands stand. -/
def execStart (s : State) : Host.Outcome State Fault Refusal :=
  .next { State.reset with input := s.input }

end Sys2Proof.Machine
end

