-- ==== Sys2Proof/Machine/Dispatch.lean ====
section
/-!
DEFINITION. `exec`: one arm per constructor of `Instr`, each one direct call of its meaning.
-/

namespace Sys2Proof.Machine

def exec (i : Instr) (s : State) : Host.Outcome State Fault Refusal :=
  match i with
  | .m523Bit0Off d => Sys2Proof.Machine.execM523Bit0Off d s
  | .m523Bit1Off d => Sys2Proof.Machine.execM523Bit1Off d s
  | .m523BitstreamOff d => Sys2Proof.Machine.execM523BitstreamOff d s
  | .m523Bit1On d => Sys2Proof.Machine.execM523Bit1On d s
  | .m523Bit0On d => Sys2Proof.Machine.execM523Bit0On d s
  | .m523BitstreamOn d => Sys2Proof.Machine.execM523BitstreamOn d s
  | .m523ChunkEnd d => Sys2Proof.Machine.execM523ChunkEnd d s
  | .m523Inv l d => Sys2Proof.Machine.execM523Inv l d s
  | .m609Off d => Sys2Proof.Machine.execM609Off d s
  | .m609ChunkStart d => Sys2Proof.Machine.execM609ChunkStart d s
  | .m609Bit0 d => Sys2Proof.Machine.execM609Bit0 d s
  | .m609Bit1 d => Sys2Proof.Machine.execM609Bit1 d s
  | .m609BitstreamStart d => Sys2Proof.Machine.execM609BitstreamStart d s
  | .m609BitstreamEnd d => Sys2Proof.Machine.execM609BitstreamEnd d s
  | .m609ChunkEnd d => Sys2Proof.Machine.execM609ChunkEnd d s
  | .m609Inv l d => Sys2Proof.Machine.execM609Inv l d s
  | .start => Sys2Proof.Machine.execStart s
  | .event l d => Sys2Proof.Machine.execEvent l d s
  | .clear m => Sys2Proof.Machine.execClear m s
  | .validate dev w => Sys2Proof.Machine.execValidate dev w s
  | .createPayload dev st => Sys2Proof.Machine.execCreatePayload dev st s

end Sys2Proof.Machine
end

