-- ==== Sys2Proof/Machine/Step.lean ====
section
/-!
DEFINITION. One step: the next pending command is taken, decoded as a command of its issuer and
carried out to completion (20_memory.md R68). With no command pending the block is idle and nothing
changes (49_arithmetic.md R387).
-/

namespace Sys2Proof.Machine

/-- One step of the machine. -/
def step (s : State) : Host.Outcome State Fault Refusal :=
  match fetch s with
  | none => .next s
  | some (c, s1) =>
    match decodeFor c.issuer c.frame with
    | .ok i => exec i s1
    | .rejected e => .refused (.undecodable e)

/-- The state with a word of spec/opcode_table.json put where `step` takes its next command, before
the commands already pending, as a command of the party that issues it: it stands for the delivery
(notes/assumptions/2.md). -/
def State.withFetchWord (s : State) (nbits w : Nat) : State := putNext s (tableCommand nbits w)

end Sys2Proof.Machine
end

