-- ==== Sys2Proof/Machine/Session.lean ====
section
/-!
DEFINITION. What the host may do with the block (00_scope.md R9, 48_session_interface.md): issuing
a command, the read accessors, the notation for event streams, the poll loop `available` and what
it reports at a timeout. None of it is state of the block and `step` does not
call it.
-/

namespace Sys2Proof.Machine

/-! ### Commands (00_scope.md R9, 10_state.md R41) -/

/-- The host issues a command: it joins the pending ones, and nothing else of the state is the
host's to write. -/
def hostIssue (c : HostCommand) (s : State) : State := { s with input := s.input ++ [c.command] }

/-! ### Read accessors (R313) -/

/-- `device_id` of a device, its 16-bit code. -/
def readDeviceId (s : State) (dev : Device) : BitVec 16 := Config.deviceCode (s.device dev).deviceId
/-- `model_id` of a device, its 16-bit code. -/
def readModelId (s : State) (dev : Device) : BitVec 16 := Config.modelCode (s.device dev).modelId
/-- `signature` of a device. -/
def readSignature (s : State) (dev : Device) : BitVec 16 := (s.device dev).signature
/-- `battery` of a device. -/
def readBattery (s : State) (dev : Device) : BitVec 8 := (s.device dev).battery
/-- `temp_num` of a device, a signed integer over 18 (00523) or 20 (00609). -/
def readTempNum (s : State) (dev : Device) : Int := (s.device dev).tempNum.toInt
/-- `humidity` of a device, in percent. -/
def readHumidity (s : State) (dev : Device) : BitVec 8 := (s.device dev).humidity

/-! ### Event streams (30_encoding.md R96, R98) -/

/-- One edge event (00_scope.md R20). -/
structure Event where
  level : Level
  duration : Duration
  deriving DecidableEq, Repr

/-- `EV level,duration`. -/
def ev (level : Level) (duration : Nat) : Event := ⟨level, BitVec.ofNat 32 duration⟩

/-- `Z523`, a 0 bit of 00523. -/
def z523 : List Event := [ev false 200, ev true 400]
/-- `O523`, a 1 bit of 00523. -/
def o523 : List Event := [ev false 400, ev true 200]
/-- `PRE523`, the 00523 preamble. -/
def pre523 : List Event := (List.replicate 4 [ev false 600, ev true 600]).flatten
/-- `END523`. -/
def end523 : List Event := [ev false 200, ev true 30000]
/-- `Z609`, a 0 bit of 00609. -/
def z609 : List Event := [ev false 800, ev true 800]
/-- `O609`, a 1 bit of 00609. -/
def o609 : List Event := [ev false 800, ev true 1800]
/-- `BS609`, a block start of 00609. -/
def bs609 : List Event := [ev false 800, ev true 8800]
/-- `BE609`, a block end of 00609. -/
def be609 : List Event := [ev false 800, ev true 15000]
/-- `CE609`, a chunk end of 00609. -/
def ce609 : List Event := [ev false 800, ev true 30000]

/-- `WORD523 w`: the bits of `w` from 47 down to 0. -/
def word523 (w : BitVec 48) : List Event :=
  (List.range 48).flatMap fun k => if w.getLsbD (47 - k) then o523 else z523

/-- `WORD609 w`: the bits of `w` from 39 down to 0. -/
def word609 (w : BitVec 40) : List Event :=
  (List.range 40).flatMap fun k => if w.getLsbD (39 - k) then o609 else z609

/-- Deliver events to the block, in order. -/
def deliver (events : List Event) (s : State) : State :=
  events.foldl (fun t e => eventStep t e.level e.duration) s

/-- Feed events to the 00523 framing machine alone: the record it ends in and the candidates it
returned, one a call. -/
def feed523 : List Event → Framing523 → Framing523 × List Cand
  | [], s => (s, [])
  | e :: rest, s =>
    let r := parseRf523 s e.level e.duration
    let t := feed523 rest r.1
    (t.1, r.2 :: t.2)

/-- Feed events to the 00609 framing machine alone. -/
def feed609 : List Event → Framing609 → Framing609 × List Cand
  | [], s => (s, [])
  | e :: rest, s =>
    let r := parseRf609 s e.level e.duration
    let t := feed609 rest r.1
    (t.1, r.2 :: t.2)

/-! ### The poll loop (R311, R312) -/

/-- What a session driver reports when its deadline elapses: by the open parameter
`HOST_TIMEOUT_CONVENTION` a Payload with `status = TIMEOUT`, or nothing (R312, D23). -/
def timeoutReport (s : State) : Option (List Byte) :=
  match Config.hostTimeoutConvention with
  | .emitTimeoutPayload => some (createPayload (s.device Config.timeoutDevice) Config.statusTimeout)
  | .returnNone => none

/-- `available` over the events that occur before its deadline (R311): deliver them one by one and
stop at the first that is accepted. The answer is the Payload or the timeout report, the state of
the block, and the events not delivered. A timeout changes no state (R312). -/
def available : List Event → State → Option (List Byte) × State × List Event
  | [], s => (timeoutReport s, s, [])
  | e :: rest, s =>
    let t := eventStep s e.level e.duration
    if t.out.accepted.isSome then (t.out.payload, t, rest) else available rest t

end Sys2Proof.Machine
end

