-- ==== Sys2Proof/Safety.lean ====
section
/-!
DEFINITION. What holds of the block at rest, in the terms the statements use: the invariants of the
framing records (10_state.md R34, with the stronger facts it names) and the legal values of the
device records (10_state.md R35, R36; 44_validator_523.md R243; 45_validator_609.md R263); and the states whose
pending commands are all the host's (00_scope.md R9).
-/

namespace Sys2Proof.Machine

/-- The invariants of `FramingState523` at rest: R34 (a), with `bitstream_size <= L - 1`; (b), every
1 bit of the buffer at a position already received; (c); and the opener count at most 3. -/
structure Framing523.Inv (f : Framing523) : Prop where
  size : f.bitstreamSize.toNat ≤ 47
  unreceived : ∀ i, f.bitstream.getLsbD i = true → 48 - f.bitstreamSize.toNat ≤ i ∧ i < 48
  nested : f.bitstreamOpen = true → f.chunkOpen = true
  openers : f.bitstreamOpenerCount.toNat ≤ 3

/-- The invariants of `FramingState609` at rest: R34 (a), (b), (c), and "a closed bitstream always
has size 0 and buffer 0" (R202). -/
structure Framing609.Inv (f : Framing609) : Prop where
  size : f.bitstreamSize.toNat ≤ 39
  unreceived : ∀ i, f.bitstream.getLsbD i = true → 40 - f.bitstreamSize.toNat ≤ i ∧ i < 40
  nested : f.bitstreamOpen = true → f.chunkOpen = true
  closed : f.bitstreamOpen = false → f.bitstream = 0#64 ∧ f.bitstreamSize = 0#8

/-- The legal values of a 00523 record: its constants (R36), no humidity (R239), and the ranges an
accept leaves (R243 (c)). -/
structure DeviceRecord.Inv523 (r : DeviceRecord) (dev : Device) (signature : BitVec 16) : Prop where
  deviceId : r.deviceId = dev
  modelId : r.modelId = .m523
  signature : r.signature = signature
  battery : r.battery.toNat ≤ 3
  temp : -720 ≤ r.tempNum.toInt ∧ r.tempNum.toInt ≤ 1259
  humidity : r.humidity = 0#8

/-- The legal values of the OUTDOOR record: its constants (R36), a signature of 8 bits (R252), and
the ranges an accept leaves (R263 (b)) or reset does. -/
structure DeviceRecord.Inv609 (r : DeviceRecord) : Prop where
  deviceId : r.deviceId = .outdoor
  modelId : r.modelId = .m609
  signature : r.signature.toNat ≤ 255
  battery : r.battery.toNat ≤ 3
  temp : -800 ≤ r.tempNum.toInt ∧ r.tempNum.toInt ≤ 1400
  humidity : r.humidity.toNat ≤ 99

/-- The invariant of the whole block at rest. -/
structure State.Inv (s : State) : Prop where
  f523 : s.f523.Inv
  f609 : s.f609.Inv
  freezer : s.freezer.Inv523 .freezer Config.sigFreezer
  fridge : s.fridge.Inv523 .fridge Config.sigFridge
  outdoor : s.outdoor.Inv609

/-- Every pending command is one that the host issued, one of its three (00_scope.md R9). -/
def State.HostDriven (s : State) : Prop :=
  ∃ cs : List HostCommand, s.input = cs.map HostCommand.command

/-- A class of 00523 whose being `last_class` gates a transition: the level-0 classes (R42). -/
def gates523 : Class523 → Bool
  | .bit0Off => true
  | .bit1Off => true
  | .bitstreamOff => true
  | _ => false

/-- A class of 00609 whose being `last_class` gates a transition: `OFF` alone (R42, R203). -/
def gates609 : Class609 → Bool
  | .off => true
  | _ => false

end Sys2Proof.Machine
end

