-- ==== Sys2Proof/Certificates/Slice0/Obligations.lean ====
section
/-!
DEFINITION. The statements for the provers. Each docstring names the rule it formalises, or the
decision of the spec or the log entry of the model that it rests on.
-/

open Sys2Proof Sys2Proof.Machine

/-! ### The command stream: decoding, encoding, the step -/

/-- A step carries out the command it decodes from the head of the command stream, where that command
is its issuer's to issue: `exec` of it, at the state with that command taken. The command stream is
the model's own (notes/assumptions/2.md). -/
def Obligations.StepRunsDecodedInstruction : Prop :=
  ∀ (s : State) (who : Issuer) (f : Frame) (rest : List Command) (i : Instr),
    s.input = ⟨who, f⟩ :: rest → decode f = .ok i → who ∈ i.issuers →
    step s = exec i { s with input := rest }

/-- With no command pending nothing changes (49_arithmetic.md R387, "the block is idle between
events by construction"); a frame that is no command, or a command that is not its issuer's to
issue, is refused by its name (the model's own, notes/assumptions/2.md). -/
def Obligations.StepIdlesOrRefusesByName : Prop :=
  (∀ s : State, s.input = [] → step s = .next s) ∧
  (∀ (s : State) (who : Issuer) (f : Frame) (rest : List Command) (e : DecodeError),
    s.input = ⟨who, f⟩ :: rest → decode f = .rejected e → step s = .refused (.undecodable e)) ∧
  (∀ (s : State) (who : Issuer) (f : Frame) (rest : List Command) (i : Instr),
    s.input = ⟨who, f⟩ :: rest → decode f = .ok i → who ∉ i.issuers →
    step s = .refused (.undecodable .wrongIssuer))

/-- Decoding an encoded well-formed instruction gives it back, with every operand. The frame is the
model's own (notes/assumptions/2.md). -/
def Obligations.DecodeOfEncode : Prop :=
  ∀ i : Instr, i.wellFormed = true → decode (encode i) = .ok i

/-- Each frame has one meaning: what decodes is well-formed and encodes to that frame, so no bit of
it is dropped. The frame is the model's own (notes/assumptions/2.md). -/
def Obligations.EncodeOfDecode : Prop :=
  ∀ (f : Frame) (i : Instr), decode f = .ok i → i.wellFormed = true ∧ encode i = f

/-- Seven frames written out. The frame, its ports and its units are the model's own choice
(notes/assumptions/2.md), and so is that a bare event word is an `EVENT` (notes/assumptions/3.md);
the spec's are only the event word of 30_encoding.md section 1 inside it and the classes of the
sample events. Under that choice the words of `EV 1,400` and `EV 0,200` are `EVENT`s; on the parse
port `EV 1,400` is `523.BIT_0_ON` (unit 0) and `609.BIT_0` (unit 1), and `EV 1,4294967295` is
`523.INV`; on the validate port unit 2 is OUTDOOR with the whole operand as its candidate, and
unit 3 is rejected as no device. -/
def Obligations.SampleWordsDecode : Prop :=
  decode 0x100000190#80 = .ok (.event true 400#32) ∧
  decode 0x0000000C8#80 = .ok (.event false 200#32) ∧
  decode 0x00010000000100000190#80 = .ok (.m523Bit0On 400#32) ∧
  decode 0x01010000000100000190#80 = .ok (.m609Bit0 400#32) ∧
  decode 0x000100000001FFFFFFFF#80 = .ok (.m523Inv true 4294967295#32) ∧
  decode 0x0304000000C0A15B25E1#80 = .rejected .reservedUnit ∧
  decode 0x0204000000C0A15B25E1#80 = .ok (.validate .outdoor 0xC0A15B25E1#64)

/-! ### The classifiers -/

/-- 40_classifier_523.md R120: each class is exactly its window, and `INV` exactly the complement. -/
def Obligations.Classify523IsItsWindowTable : Prop :=
  ∀ (l : Level) (d : Duration),
    (classify523 l d = .bit0Off ↔ l = false ∧ 100 ≤ d.toNat ∧ d.toNat < 300) ∧
    (classify523 l d = .bit1Off ↔ l = false ∧ 300 ≤ d.toNat ∧ d.toNat < 500) ∧
    (classify523 l d = .bitstreamOff ↔ l = false ∧ 500 ≤ d.toNat ∧ d.toNat < 700) ∧
    (classify523 l d = .bit1On ↔ l = true ∧ 100 ≤ d.toNat ∧ d.toNat < 300) ∧
    (classify523 l d = .bit0On ↔ l = true ∧ 300 ≤ d.toNat ∧ d.toNat < 500) ∧
    (classify523 l d = .bitstreamOn ↔ l = true ∧ 500 ≤ d.toNat ∧ d.toNat < 700) ∧
    (classify523 l d = .chunkEnd ↔ l = true ∧ 20000 ≤ d.toNat ∧ d.toNat < 60000) ∧
    (classify523 l d = .inv ↔
      d.toNat < 100 ∨ (700 ≤ d.toNat ∧ (l = false ∨ d.toNat < 20000 ∨ 60000 ≤ d.toNat)))

/-- 41_classifier_609.md R140: each class is exactly its window, and `INV` exactly the complement. -/
def Obligations.Classify609IsItsWindowTable : Prop :=
  ∀ (l : Level) (d : Duration),
    (classify609 l d = .off ↔ l = false ∧ d.toNat < 1200) ∧
    (classify609 l d = .chunkStart ↔ l = true ∧ d.toNat < 300) ∧
    (classify609 l d = .bit0 ↔ l = true ∧ 300 ≤ d.toNat ∧ d.toNat < 1200) ∧
    (classify609 l d = .bit1 ↔ l = true ∧ 1200 ≤ d.toNat ∧ d.toNat < 3000) ∧
    (classify609 l d = .bitstreamStart ↔ l = true ∧ 8700 ≤ d.toNat ∧ d.toNat < 9000) ∧
    (classify609 l d = .bitstreamEnd ↔ l = true ∧ 10000 ≤ d.toNat ∧ d.toNat < 20000) ∧
    (classify609 l d = .chunkEnd ↔ l = true ∧ 20000 ≤ d.toNat ∧ d.toNat < 40000) ∧
    (classify609 l d = .inv ↔
      (l = false ∧ 1200 ≤ d.toNat) ∨
      (l = true ∧ ((3000 ≤ d.toNat ∧ d.toNat < 8700) ∨ (9000 ≤ d.toNat ∧ d.toNat < 10000) ∨
        40000 ≤ d.toNat)))

/-! ### The helper procedures -/

/-- 42_framing_523.md section 1, the bodies of the helper procedures of model 00523. They are the
spec's own choice (92_eei_decisions.md D11). -/
def Obligations.HelperProcedures523 : Prop :=
  ∀ f : Framing523,
    openChunk523 f = { f with
      chunkOpen := true, bitstreamOpen := true, bitstream := 0#64, bitstreamSize := 0#8 } ∧
    closeBitstream523 f = { f with
      bitstreamOpen := false, bitstream := 0#64, bitstreamSize := 0#8 } ∧
    closeChunk523 f = { f with
      chunkOpen := false, bitstreamOpen := false, bitstream := 0#64, bitstreamSize := 0#8,
      bitstreamOpenerCount := 0#8 }

/-- 43_framing_609.md section 1, the bodies of the helper procedures of model 00609. They are the
spec's own choice (92_eei_decisions.md D11). -/
def Obligations.HelperProcedures609 : Prop :=
  ∀ f : Framing609,
    openBitstream609 f = { f with
      bitstreamOpen := true, bitstream := 0#64, bitstreamSize := 0#8 } ∧
    openChunk609 f = { f with
      chunkOpen := true, bitstreamOpen := true, bitstream := 0#64, bitstreamSize := 0#8 } ∧
    closeBitstream609 f = { f with
      bitstreamOpen := false, bitstream := 0#64, bitstreamSize := 0#8 } ∧
    closeChunk609 f = { f with
      chunkOpen := false, bitstreamOpen := false, bitstream := 0#64, bitstreamSize := 0#8 }

/-! ### The rows of model 00523: result and frame in one equation -/

/-- 42_framing_523.md R174 to R177: each of the four rows writes `last_class`, and returns the
opener count to 0 after a `BIT_0_OFF` in an open chunk; it emits nothing and changes nothing else. -/
def Obligations.OffAndInvRows523Result : Prop :=
  ∀ (s : State) (l : Level) (d : Duration),
    let count := if s.f523.chunkOpen = true ∧ s.f523.lastClass = .bit0Off then 0#8
      else s.f523.bitstreamOpenerCount
    exec (.m523Bit0Off d) s = .next { s with
      f523 := { s.f523 with bitstreamOpenerCount := count, lastClass := .bit0Off }
      out := { Output.empty with class523 := some .bit0Off } } ∧
    exec (.m523Bit1Off d) s = .next { s with
      f523 := { s.f523 with bitstreamOpenerCount := count, lastClass := .bit1Off }
      out := { Output.empty with class523 := some .bit1Off } } ∧
    exec (.m523BitstreamOff d) s = .next { s with
      f523 := { s.f523 with bitstreamOpenerCount := count, lastClass := .bitstreamOff }
      out := { Output.empty with class523 := some .bitstreamOff } } ∧
    exec (.m523Inv l d) s = .next { s with
      f523 := { s.f523 with bitstreamOpenerCount := count, lastClass := .inv }
      out := { Output.empty with class523 := some .inv } }

/-- 42_framing_523.md R170, for an opener count below 255 (it is at most 3 in every state that keeps
the invariant, `StepKeepsTheInvariant`): the counted pulse, the fourth one, the reset of the count
after a `BIT_0_OFF`, and the pulse that does nothing. What `open_chunk` writes is
`HelperProcedures523`. -/
def Obligations.BitstreamOn523Result : Prop :=
  ∀ (s : State) (d : Duration), s.f523.bitstreamOpenerCount.toNat < 255 →
    let counted := s.f523.lastClass = .bitstreamOff ∨ s.f523.chunkOpen = false
    let fourth := s.f523.bitstreamOpenerCount.toNat + 1 = 4
    let f := { s.f523 with lastClass := Class523.bitstreamOn }
    let next (g : Framing523) : Host.Outcome State Fault Refusal :=
      .next { s with f523 := g, out := { Output.empty with class523 := some .bitstreamOn } }
    (counted → ¬ fourth → exec (.m523BitstreamOn d) s =
      next { f with bitstreamOpenerCount := s.f523.bitstreamOpenerCount + 1#8 }) ∧
    (counted → fourth → s.f523.chunkOpen = true → exec (.m523BitstreamOn d) s =
      next { f with bitstreamOpenerCount := 0#8 }) ∧
    (counted → fourth → s.f523.chunkOpen = false → exec (.m523BitstreamOn d) s =
      next (openChunk523 { f with bitstreamOpenerCount := 0#8 })) ∧
    (¬ counted → s.f523.lastClass = .bit0Off → exec (.m523BitstreamOn d) s =
      next { f with bitstreamOpenerCount := 0#8 }) ∧
    (¬ counted → s.f523.lastClass ≠ .bit0Off → exec (.m523BitstreamOn d) s = next f)

/-- 42_framing_523.md R171: a 0 bit after `BIT_0_OFF` in an open chunk; the 48th is emitted
and the bitstream closed (`HelperProcedures523`). -/
def Obligations.Bit0On523Result : Prop :=
  ∀ (s : State) (d : Duration),
    let takes := s.f523.chunkOpen = true ∧ s.f523.lastClass = .bit0Off ∧
      s.f523.bitstreamSize.toNat < 48
    let f := { s.f523 with lastClass := Class523.bit0On }
    let next (g : Framing523) (c : Cand) : Host.Outcome State Fault Refusal :=
      .next { s with f523 := g,
                     out := { Output.empty with class523 := some .bit0On, cand523 := c } }
    (takes → s.f523.bitstreamSize.toNat + 1 < 48 → exec (.m523Bit0On d) s =
      next { f with bitstreamSize := s.f523.bitstreamSize + 1#8 } 0#64) ∧
    (takes → s.f523.bitstreamSize.toNat + 1 = 48 → exec (.m523Bit0On d) s =
      next (closeBitstream523 f) s.f523.bitstream) ∧
    (¬ takes → exec (.m523Bit0On d) s = next f 0#64)

/-- 42_framing_523.md R172: a 1 bit after `BIT_1_OFF` in an open chunk, at position `47 - size`; the
48th is emitted; after `BIT_0_OFF` it emits a buffer that is full already. Either emission closes
the bitstream (`HelperProcedures523`). -/
def Obligations.Bit1On523Result : Prop :=
  ∀ (s : State) (d : Duration),
    let takes := s.f523.chunkOpen = true ∧ s.f523.lastClass = .bit1Off ∧
      s.f523.bitstreamSize.toNat < 48
    let emitsFull := s.f523.chunkOpen = true ∧ s.f523.lastClass = .bit0Off ∧
      s.f523.bitstreamSize.toNat = 48
    let buffer := s.f523.bitstream ||| BitVec.ofNat 64 (2 ^ (47 - s.f523.bitstreamSize.toNat))
    let f := { s.f523 with lastClass := Class523.bit1On }
    let next (g : Framing523) (c : Cand) : Host.Outcome State Fault Refusal :=
      .next { s with f523 := g,
                     out := { Output.empty with class523 := some .bit1On, cand523 := c } }
    (takes → s.f523.bitstreamSize.toNat + 1 < 48 → exec (.m523Bit1On d) s =
      next { f with bitstreamSize := s.f523.bitstreamSize + 1#8, bitstream := buffer } 0#64) ∧
    (takes → s.f523.bitstreamSize.toNat + 1 = 48 → exec (.m523Bit1On d) s =
      next (closeBitstream523 f) buffer) ∧
    (emitsFull → exec (.m523Bit1On d) s = next (closeBitstream523 f) s.f523.bitstream) ∧
    (¬ takes → ¬ emitsFull → exec (.m523Bit1On d) s = next f 0#64)

/-- 42_framing_523.md section 2, `CHUNK_END`: it closes the chunk directly after a `BIT_0_OFF` and is
ignored otherwise. The gate on `BIT_0_OFF` is the spec's own decision (92_eei_decisions.md D10). -/
def Obligations.ChunkEnd523Result : Prop :=
  ∀ (s : State) (d : Duration),
    let closes := s.f523.chunkOpen = true ∧ s.f523.lastClass = .bit0Off
    let next (g : Framing523) (c : Cand) : Host.Outcome State Fault Refusal :=
      .next { s with f523 := g,
                     out := { Output.empty with class523 := some .chunkEnd, cand523 := c } }
    (closes → exec (.m523ChunkEnd d) s =
      next (closeChunk523 { s.f523 with lastClass := .chunkEnd })
        (if s.f523.bitstreamSize.toNat = 48 then s.f523.bitstream else 0#64)) ∧
    (¬ closes → exec (.m523ChunkEnd d) s = next { s.f523 with lastClass := .chunkEnd } 0#64)

/-! ### The rows of model 00609 -/

/-- 43_framing_609.md R210, R216, R217: `OFF`, `CHUNK_START` and `INV` only write `last_class`. -/
def Obligations.OffChunkStartInvRows609Result : Prop :=
  ∀ (s : State) (l : Level) (d : Duration),
    exec (.m609Off d) s = .next { s with
      f609 := { s.f609 with lastClass := .off }
      out := { Output.empty with class609 := some .off } } ∧
    exec (.m609ChunkStart d) s = .next { s with
      f609 := { s.f609 with lastClass := .chunkStart }
      out := { Output.empty with class609 := some .chunkStart } } ∧
    exec (.m609Inv l d) s = .next { s with
      f609 := { s.f609 with lastClass := .inv }
      out := { Output.empty with class609 := some .inv } }

/-- 43_framing_609.md R211 and R212: a data bit is taken after `OFF` with the chunk and the bitstream
open; a 1 bit is stored at position `39 - size`; the 40th bit is emitted and the bitstream closed
(`HelperProcedures609`). -/
def Obligations.BitRows609Result : Prop :=
  ∀ (s : State) (d : Duration),
    let takes := s.f609.lastClass = .off ∧ s.f609.chunkOpen = true ∧ s.f609.bitstreamOpen = true ∧
      s.f609.bitstreamSize.toNat < 40
    let buffer := s.f609.bitstream ||| BitVec.ofNat 64 (2 ^ (39 - s.f609.bitstreamSize.toNat))
    let next (cls : Class609) (g : Framing609) (c : Cand) : Host.Outcome State Fault Refusal :=
      .next { s with f609 := { g with lastClass := cls },
                     out := { Output.empty with class609 := some cls, cand609 := c } }
    let emptied := closeBitstream609 s.f609
    let grown := { s.f609 with bitstreamSize := s.f609.bitstreamSize + 1#8 }
    (takes → s.f609.bitstreamSize.toNat + 1 < 40 →
      exec (.m609Bit0 d) s = next .bit0 grown 0#64 ∧
      exec (.m609Bit1 d) s = next .bit1 { grown with bitstream := buffer } 0#64) ∧
    (takes → s.f609.bitstreamSize.toNat + 1 = 40 →
      exec (.m609Bit0 d) s = next .bit0 emptied s.f609.bitstream ∧
      exec (.m609Bit1 d) s = next .bit1 emptied buffer) ∧
    (¬ takes →
      exec (.m609Bit0 d) s = next .bit0 s.f609 0#64 ∧
      exec (.m609Bit1 d) s = next .bit1 s.f609 0#64)

/-- 43_framing_609.md R213: `BITSTREAM_START` after `OFF` opens the chunk, or the bitstream of an open
chunk, and otherwise only writes `last_class`. -/
def Obligations.BitstreamStart609Result : Prop :=
  ∀ (s : State) (d : Duration),
    let f := { s.f609 with lastClass := Class609.bitstreamStart }
    let next (g : Framing609) (c : Cand) : Host.Outcome State Fault Refusal :=
      .next { s with f609 := g,
                     out := { Output.empty with class609 := some .bitstreamStart, cand609 := c } }
    (s.f609.lastClass = .off → s.f609.chunkOpen = false →
      exec (.m609BitstreamStart d) s = next (openChunk609 f) 0#64) ∧
    (s.f609.lastClass = .off → s.f609.chunkOpen = true → s.f609.bitstreamOpen = false →
      exec (.m609BitstreamStart d) s =
        next (openBitstream609 f) (if s.f609.bitstreamSize.toNat = 40 then s.f609.bitstream else 0#64)) ∧
    (s.f609.lastClass ≠ .off ∨ (s.f609.chunkOpen = true ∧ s.f609.bitstreamOpen = true) →
      exec (.m609BitstreamStart d) s =
        next f 0#64)

/-- 43_framing_609.md R214 and R215: `BITSTREAM_END` closes an open bitstream and `CHUNK_END` an open
chunk, both after `OFF` only, emitting a buffer that is full already; otherwise each only writes
`last_class`. -/
def Obligations.EndRows609Result : Prop :=
  ∀ (s : State) (d : Duration),
    let full := if s.f609.bitstreamSize.toNat = 40 then s.f609.bitstream else 0#64
    let next (cls : Class609) (g : Framing609) (c : Cand) : Host.Outcome State Fault Refusal :=
      .next { s with f609 := { g with lastClass := cls },
                     out := { Output.empty with class609 := some cls, cand609 := c } }
    let ends := s.f609.lastClass = .off ∧ s.f609.chunkOpen = true ∧ s.f609.bitstreamOpen = true
    let closes := s.f609.lastClass = .off ∧ s.f609.chunkOpen = true
    (ends → exec (.m609BitstreamEnd d) s =
      next .bitstreamEnd (closeBitstream609 s.f609) full) ∧
    (¬ ends → exec (.m609BitstreamEnd d) s = next .bitstreamEnd s.f609 0#64) ∧
    (closes → exec (.m609ChunkEnd d) s = next .chunkEnd (closeChunk609 s.f609) full) ∧
    (¬ closes → exec (.m609ChunkEnd d) s = next .chunkEnd s.f609 0#64)

/-! ### The composed framing steps against the classes -/

/-- 42_framing_523.md R161 against R170 to R178: `parse_rf_523`, which the dispatcher runs, does on
every event exactly what the row of the event's class does. -/
def Obligations.ParseRf523AgreesWithItsRows : Prop :=
  ∀ (s : State) (l : Level) (d : Duration),
    exec (instr523 l d) s = .next (framed523 s (classify523 l d) (parseRf523 s.f523 l d))

/-- 43_framing_609.md R201 against R210 to R217: `parse_rf_609`, which the dispatcher runs, does on
every event exactly what the row of the event's class does. -/
def Obligations.ParseRf609AgreesWithItsRows : Prop :=
  ∀ (s : State) (l : Level) (d : Duration),
    exec (instr609 l d) s = .next (framed609 s (classify609 l d) (parseRf609 s.f609 l d))

/-- 10_state.md R46: what a row of one model leaves in that model's framing record, and the
candidate it returns, depend on that record alone. -/
def Obligations.FramingDependsOnItsOwnRecord : Prop :=
  ∀ (s s' t t' : State) (l : Level) (d : Duration),
    (s.f523 = s'.f523 → exec (instr523 l d) s = .next t → exec (instr523 l d) s' = .next t' →
      t.f523 = t'.f523 ∧ t.out = t'.out ∧ t.f609 = s.f609 ∧
      t.freezer = s.freezer ∧ t.fridge = s.fridge ∧ t.outdoor = s.outdoor) ∧
    (s.f609 = s'.f609 → exec (instr609 l d) s = .next t → exec (instr609 l d) s' = .next t' →
      t.f609 = t'.f609 ∧ t.out = t'.out ∧ t.f523 = s.f523 ∧
      t.freezer = s.freezer ∧ t.fridge = s.fridge ∧ t.outdoor = s.outdoor)

/-- 10_state.md R42: the classes that gate no transition are equivalent to one another as
`last_class`: whichever of them stands there, the next event has the same effect. -/
def Obligations.UngatedLastClassesAreEquivalent : Prop :=
  (∀ (f : Framing523) (c c' : Class523) (l : Level) (d : Duration),
    gates523 c = false → gates523 c' = false →
    parseRf523 { f with lastClass := c } l d = parseRf523 { f with lastClass := c' } l d) ∧
  (∀ (f : Framing609) (c c' : Class609) (l : Level) (d : Duration),
    gates609 c = false → gates609 c' = false →
    parseRf609 { f with lastClass := c } l d = parseRf609 { f with lastClass := c' } l d)

/-- 42_framing_523.md R180 and 43_framing_609.md R220: in every state that keeps the invariant the
"if full" arms emit nothing. -/
def Obligations.IfFullArmsAreDead : Prop :=
  ∀ (s t : State) (d : Duration), s.Inv →
    (exec (.m523ChunkEnd d) s = .next t → t.out.cand523 = 0#64) ∧
    (s.f523.lastClass = .bit0Off → exec (.m523Bit1On d) s = .next t → t.out.cand523 = 0#64) ∧
    (exec (.m609BitstreamStart d) s = .next t → t.out.cand609 = 0#64) ∧
    (exec (.m609BitstreamEnd d) s = .next t → t.out.cand609 = 0#64) ∧
    (exec (.m609ChunkEnd d) s = .next t → t.out.cand609 = 0#64)

/-- 30_encoding.md R97: the candidate of an event has its bits 63:48 (00523) and 63:40 (00609) zero,
in every state that keeps the invariant. -/
def Obligations.CandidatesFitTheirLength : Prop :=
  ∀ (s t : State) (l : Level) (d : Duration), s.Inv → exec (.event l d) s = .next t →
    t.out.cand523.toNat < 2 ^ 48 ∧ t.out.cand609.toNat < 2 ^ 40

/-- 42_framing_523.md R183: with no chunk open only a `BITSTREAM_ON` changes more than `last_class`,
so the opener count persists whatever lies between. -/
def Obligations.OpenerCountPersistsWithoutChunk : Prop :=
  ∀ (f : Framing523) (l : Level) (d : Duration),
    f.chunkOpen = false → classify523 l d ≠ .bitstreamOn →
    parseRf523 f l d = ({ f with lastClass := classify523 l d }, 0#64)

/-- 42_framing_523.md R182 and 43_framing_609.md R222, property 6 of the source: a stream of pulses
that a model classifies `INV`, from any of its records with no chunk open, emits no candidate and
leaves `chunk_open = false`. -/
def Obligations.InvStreamsEmitNothing : Prop :=
  (∀ (evs : List Event) (f : Framing523), f.chunkOpen = false →
    (∀ e ∈ evs, classify523 e.level e.duration = .inv) →
    (feed523 evs f).1.chunkOpen = false ∧ ∀ c ∈ (feed523 evs f).2, c = 0#64) ∧
  (∀ (evs : List Event) (f : Framing609), f.chunkOpen = false →
    (∀ e ∈ evs, classify609 e.level e.duration = .inv) →
    (feed609 evs f).1.chunkOpen = false ∧ ∀ c ∈ (feed609 evs f).2, c = 0#64)

/-- 42_framing_523.md R182, property 5 of the source: `WORD523 w` in an open chunk with an empty
buffer returns `w` on its last event and nothing before, for every 48-bit `w`. -/
def Obligations.Word523RoundTrips : Prop :=
  ∀ (f : Framing523) (w : BitVec 48),
    f.chunkOpen = true → f.bitstreamSize = 0#8 → f.bitstream = 0#64 →
    (feed523 (word523 w) f).2 = List.replicate 95 0#64 ++ [w.setWidth 64] ∧
    (feed523 (word523 w) f).1.bitstreamSize = 0#8 ∧ (feed523 (word523 w) f).1.chunkOpen = true

/-- 43_framing_609.md R222, property 5 of the source: `WORD609 w` in an open, empty bitstream returns
`w` on its last event and nothing before, for every 40-bit `w`. -/
def Obligations.Word609RoundTrips : Prop :=
  ∀ (f : Framing609) (w : BitVec 40),
    f.chunkOpen = true → f.bitstreamOpen = true → f.bitstreamSize = 0#8 → f.bitstream = 0#64 →
    (feed609 (word609 w) f).2 = List.replicate 79 0#64 ++ [w.setWidth 64] ∧
    (feed609 (word609 w) f).1.bitstreamSize = 0#8 ∧
    (feed609 (word609 w) f).1.bitstreamOpen = false

/-! ### The validators -/

/-- 44_validator_523.md R242: `VALIDATE` of a 00523 device, for a candidate of 48 bits (what a longer
one gives is `ValidatorsReadOnlyTheLowBits`). The checks in their order on the bits of the
candidate, one reason for the first that fails; on accept the two latches, on reject none; and
nothing else of the block changes. -/
def Obligations.Validate523Result : Prop :=
  ∀ (s : State) (dev : Device) (w : Cand), dev = .freezer ∨ dev = .fridge → w.toNat < 2 ^ 48 →
    let byte (k : Nat) : Nat := w.toNat / 256 ^ k % 256
    let ones (lo : Nat) : Nat := ((List.range 7).map fun i => (w.getLsbD (lo + i)).toNat).sum
    let t : Int := ((w.toNat / 2 ^ 16 % 128 * 128 + w.toNat / 2 ^ 8 % 128 : Nat) : Int) - 1800
    let r := s.device dev
    let result : Result :=
      if w = 0#64 then .reject .zero
      else if w.toNat / 2 ^ 32 ≠ r.signature.toNat then .reject .signature
      else if (byte 5 + byte 4 + byte 3 + byte 2 + byte 1) % 256 ≠ byte 0 then .reject .checksum
      else if ones 8 % 2 ≠ (w.getLsbD 15).toNat ∨ ones 16 % 2 ≠ (w.getLsbD 23).toNat then
        .reject .parity
      else if ¬ (-720 ≤ t ∧ t < 1260) then .reject .range
      else .accept
    let latched := { r with battery := BitVec.ofNat 8 (w.toNat / 2 ^ 30 % 4),
                            tempNum := BitVec.ofInt 16 t }
    exec (.validate dev w) s =
      .next ({ s with out := { Output.empty with validations := [(dev, result)] } }.setDevice dev
        (if result = Result.accept then latched else r))

/-- 45_validator_609.md R262: `VALIDATE` of OUTDOOR, for a candidate of 40 bits (what a longer one
gives is `ValidatorsReadOnlyTheLowBits`). The checks in their order on the bits of the
candidate, one reason for the first that fails; on accept the four latches, the signature only if
it was 0; on reject none; and nothing else of the block changes. -/
def Obligations.Validate609Result : Prop :=
  ∀ (s : State) (w : Cand), w.toNat < 2 ^ 40 →
    let byte (k : Nat) : Nat := w.toNat / 256 ^ k % 256
    let raw : Nat := w.toNat / 2 ^ 15 % 2 ^ 13
    let t : Int := if 4096 ≤ raw then (raw : Int) - 8192 else raw
    let hum : Nat := w.toNat / 2 ^ 8 % 128
    let r := s.outdoor
    let result : Result :=
      if w = 0#64 then .reject .zero
      else if r.signature.toNat ≠ 0 ∧ byte 4 ≠ r.signature.toNat then .reject .signature
      else if w.toNat / 2 ^ 28 % 4 ≠ 2 then .reject .channel
      else if (byte 4 + byte 3 + byte 2 + byte 1) % 256 ≠ byte 0 then .reject .checksum
      else if ¬ (1 ≤ hum ∧ hum ≤ 99 ∧ -800 ≤ t ∧ t ≤ 1400) then .reject .range
      else .accept
    let latched := { r with
      signature := if r.signature.toNat = 0 then BitVec.ofNat 16 (byte 4) else r.signature
      battery := BitVec.ofNat 8 (w.toNat / 2 ^ 30 % 4)
      humidity := BitVec.ofNat 8 hum
      tempNum := BitVec.ofInt 16 t }
    exec (.validate .outdoor w) s =
      .next { s with outdoor := if result = Result.accept then latched else r
                     out := { Output.empty with validations := [(.outdoor, result)] } }

/-- 60_exceptions.md R322: the whole effect of a rejected candidate is that it is dropped: no record
and no framing state changes, whichever validator rejects it. -/
def Obligations.RejectionWritesNothing : Prop :=
  ∀ (s : State) (dev : Device) (w : Cand) (reason : RejectReason),
    (runValidator dev (s.device dev) w).1 = .reject reason →
    exec (.validate dev w) s =
      .next { s with out := { Output.empty with validations := [(dev, .reject reason)] } }

/-- A validator reads only the low 48 (40) bits of its candidate. That is the spec's own decision
(92_eei_decisions.md D21; notes/assumptions/10.md). -/
def Obligations.ValidatorsReadOnlyTheLowBits : Prop :=
  ∀ (r : DeviceRecord) (w w' : Cand),
    (w.setWidth 48 = w'.setWidth 48 → ∀ dev, dev = .freezer ∨ dev = .fridge →
      runValidator dev r w = runValidator dev r w') ∧
    (w.setWidth 40 = w'.setWidth 40 → runValidator .outdoor r w = runValidator .outdoor r w')

/-- 44_validator_523.md R243 (d): at most one of FREEZER and FRIDGE accepts a given word. -/
def Obligations.AtMostOneDevice523Accepts : Prop :=
  ∀ (s : State) (w : Cand), s.Inv →
    ¬ ((validate523 s.freezer w).1 = Result.accept ∧ (validate523 s.fridge w).1 = .accept)

/-- 45_validator_609.md R263 (c): once non-zero, the 00609 signature is changed by no command but
`START`. -/
def Obligations.LatchedSignatureStaysUntilStart : Prop :=
  ∀ (i : Instr) (s t : State), s.outdoor.signature ≠ 0#16 → i ≠ .start → exec i s = .next t →
    t.outdoor.signature = s.outdoor.signature

/-! ### The serializer -/

/-- 47_serializer.md R292 to R295 and R298: `CREATE_PAYLOAD` puts out 14 bytes and changes nothing
else; the constant tag, the model, the device and the status stand in bytes 0 to 8, and the
humidity in tenths of a percent (0 for 00523) in bytes 12 and 13. -/
def Obligations.CreatePayloadHeaderAndHumidity : Prop :=
  ∀ (s : State) (dev : Device) (status : Byte),
    let r := s.device dev
    let h : Nat := if r.modelId = .m609 then r.humidity.toNat * 10 else 0
    ∃ battery lo hi : Byte,
      exec (.createPayload dev status) s = .next { s with out := { Output.empty with
        payload := some
          ([0x62#8, 0x31#8, 0x07#8, 0x38#8] ++
           (match r.modelId with | .m523 => [0x38#8, 0x06#8] | .m609 => [0xB9#8, 0x19#8]) ++
           (match r.deviceId with
            | .freezer => [0xDA#8, 0x25#8]
            | .fridge => [0x68#8, 0x1E#8]
            | .outdoor => [0x35#8, 0x21#8]) ++
           [status, battery, lo, hi, BitVec.ofNat 8 h, BitVec.ofNat 8 (h / 256)]) } }

/-- 47_serializer.md sections 1 to 3, the battery and the temperature of the image: byte 9 is the
record's battery, and bytes 10 and 11 hold in 16-bit two's complement the greatest integer `q` with
`q * div <= temp_num * 10`, `div` being 18 or 20. Rounding down and two's complement are the spec's
own choices (92_eei_decisions.md D14, D34). -/
def Obligations.CreatePayloadBatteryAndTemperature : Prop :=
  ∀ (s : State) (dev : Device) (status : Byte),
    let r := s.device dev
    let div : Int := if r.modelId = .m523 then 18 else 20
    ∃ (t : State) (image : List Byte) (q : Int),
      exec (.createPayload dev status) s = .next t ∧ t.out.payload = some image ∧
      image.length = 14 ∧ image[9]? = some r.battery ∧
      q * div ≤ r.tempNum.toInt * 10 ∧ r.tempNum.toInt * 10 < (q + 1) * div ∧
      -32768 ≤ q ∧ q < 32768 ∧
      image[10]? = some (BitVec.ofInt 8 q) ∧ image[11]? = some (BitVec.ofInt 8 (q / 256))

/-- 49_arithmetic.md section 1, the division of the block: `floor_div(a, b)` is the greatest integer
`q` with `q * b <= a`. -/
def Obligations.FloorDivIsTheGreatestQuotient : Prop :=
  ∀ a b : Int, 0 < b →
    floorDiv a b * b ≤ a ∧ ∀ q : Int, q * b ≤ a → q ≤ floorDiv a b

/-! ### The dispatcher, `CLEAR` and `START` -/

/-- 46_dispatcher.md R271: the step of the whole block on one event. Both framing machines take the
event; the 00523 candidate goes to FREEZER, then FRIDGE; if neither accepts, the 00609 candidate
goes to OUTDOOR; the first that accepts latches, its Payload with status 1 and the strobe go out,
and both machines are cleared. -/
def Obligations.EventStepsTheWholeBlock : Prop :=
  ∀ (s : State) (l : Level) (d : Duration),
    let p523 := parseRf523 s.f523 l d
    let p609 := parseRf609 s.f609 l d
    let vFreezer := validate523 s.freezer p523.2
    let vFridge := validate523 s.fridge p523.2
    let vOutdoor := validate609 s.outdoor p609.2
    let calls523 : List (Device × Result) :=
      if p523.2 = 0#64 then [] else [(.freezer, vFreezer.1), (.fridge, vFridge.1)]
    let framed (calls : List (Device × Result)) : State :=
      { s with
        f523 := p523.1
        f609 := p609.1
        out := { Output.empty with
          class523 := some (classify523 l d)
          class609 := some (classify609 l d)
          cand523 := p523.2
          cand609 := p609.2
          validations := calls } }
    let accepted (t : State) (r : DeviceRecord) : State :=
      { t with
        f523 := clear523 t.f523
        f609 := clear609 t.f609
        out := { t.out with accepted := some r.deviceId, payload := some (createPayload r 1#8),
                            statsStrobe := some r.deviceId } }
    exec (.event l d) s = .next
      (if p523.2 ≠ 0#64 ∧ vFreezer.1 = .accept then
        accepted { framed [(.freezer, vFreezer.1)] with freezer := vFreezer.2 } vFreezer.2
      else if p523.2 ≠ 0#64 ∧ vFridge.1 = .accept then
        accepted { framed calls523 with fridge := vFridge.2 } vFridge.2
      else if p609.2 = 0#64 then framed calls523
      else if vOutdoor.1 = .accept then
        accepted { framed (calls523 ++ [(.outdoor, vOutdoor.1)]) with outdoor := vOutdoor.2 }
          vOutdoor.2
      else framed (calls523 ++ [(.outdoor, vOutdoor.1)]))

/-- 46_dispatcher.md R282 (a): a device record changes only in an event that its device accepts. -/
def Obligations.RecordsChangeOnlyOnTheirAcceptance : Prop :=
  ∀ (s t : State) (l : Level) (d : Duration) (dev : Device), s.Inv →
    exec (.event l d) s = .next t → t.device dev ≠ s.device dev → t.out.accepted = some dev

/-- 46_dispatcher.md R282 (d) and 90_conflicts.md C15: after an acceptance the 00609 record is at its
reset values and the 00523 record too but for `chunk_open`, which stays as framing left it (what
`clear()` resets is the spec's own decision, 92_eei_decisions.md D33). -/
def Obligations.AcceptanceClearsBothMachines : Prop :=
  ∀ (s t : State) (l : Level) (d : Duration), exec (.event l d) s = .next t →
    t.out.accepted.isSome = true →
    t.f609 = Framing609.reset ∧
    t.f523 = { Framing523.reset with chunkOpen := (parseRf523 s.f523 l d).1.chunkOpen }

/-- 46_dispatcher.md section 2: on acceptance the Payload carries the record just latched, with status
OK; without one nothing is put out. -/
def Obligations.PayloadIsTheLatchedRecord : Prop :=
  ∀ (s t : State) (l : Level) (d : Duration), s.Inv → exec (.event l d) s = .next t →
    t.out.payload = t.out.accepted.map (fun dev => createPayload (t.device dev) 1#8) ∧
    t.out.statsStrobe = t.out.accepted

/-- 42_framing_523.md section 1 and 43_framing_609.md section 1, `CLEAR`: of 00523 everything but
`chunk_open`, of 00609 everything, and nothing else of the block (what `clear()` resets is the
spec's own decision, 92_eei_decisions.md D33). -/
def Obligations.ClearResult : Prop :=
  ∀ s : State,
    exec (.clear .m523) s = .next { s with
      f523 := { bitstream := 0#64, bitstreamSize := 0#8, bitstreamOpen := false,
                chunkOpen := s.f523.chunkOpen, lastClass := .inv, bitstreamOpenerCount := 0#8 }
      out := Output.empty } ∧
    exec (.clear .m609) s = .next { s with
      f609 := { bitstream := 0#64, bitstreamSize := 0#8, bitstreamOpen := false,
                chunkOpen := false, lastClass := .inv }
      out := Output.empty }

/-- Property 4 of the source: "two consecutive `clear()` calls are equivalent to one". -/
def Obligations.ClearIsIdempotent : Prop :=
  ∀ (s t : State) (m : Model), exec (.clear m) s = .next t → exec (.clear m) t = .next t

/-- 70_reset_and_hazards.md section 1, `START`: every field of the block at its reset value. That the
further pending commands are kept is the model's choice (notes/assumptions/13.md). The zeros of the
framing and measurement fields are the spec's own decisions (92_eei_decisions.md D6, D7, D30;
notes/assumptions/1.md). -/
def Obligations.StartResetsEverything : Prop :=
  ∀ s : State, ∃ t : State, exec .start s = .next t ∧
    t.f523 = { bitstream := 0#64, bitstreamSize := 0#8, bitstreamOpen := false, chunkOpen := false,
               lastClass := .inv, bitstreamOpenerCount := 0#8 } ∧
    t.f609 = { bitstream := 0#64, bitstreamSize := 0#8, bitstreamOpen := false, chunkOpen := false,
               lastClass := .inv } ∧
    t.freezer = { deviceId := .freezer, modelId := .m523, signature := 0xC049#16, battery := 0#8,
                  tempNum := 0#16, humidity := 0#8 } ∧
    t.fridge = { deviceId := .fridge, modelId := .m523, signature := 0xC07C#16, battery := 0#8,
                 tempNum := 0#16, humidity := 0#8 } ∧
    t.outdoor = { deviceId := .outdoor, modelId := .m609, signature := 0#16, battery := 0#8,
                  tempNum := 0#16, humidity := 0#8 } ∧
    t.input = s.input ∧ t.out = Output.empty

/-! ### The whole machine -/

/-- Every command completes in every state (46_dispatcher.md section 2, "The step is total and
deterministic"; 60_exceptions.md section 4). The second clause, that it leaves the further pending
commands as they are, is about the model's own command stream and no statement of the spec
(notes/assumptions/2.md); that `START` keeps them is the model's choice (notes/assumptions/13.md). -/
def Obligations.EveryCommandCompletes : Prop :=
  ∀ (i : Instr) (s : State), ∃ t : State, exec i s = .next t ∧ t.input = s.input

/-- The state after reset meets the invariant of 10_state.md section 2. It rests on chosen reset
values: the framing and measurement fields at reset are the spec's own decisions
(92_eei_decisions.md D6, D7) that the model takes over (notes/assumptions/1.md, DESIGN CHOICE,
unsafe). -/
def Obligations.ResetMeetsTheInvariant : Prop := State.reset.Inv

/-- 10_state.md R34: the invariants of the framing records, with the stronger facts it names, and the
legal values of the device records hold after every step that starts with them. For the step of a
`START` it rests on the chosen reset values (92_eei_decisions.md D6, D7; notes/assumptions/1.md). -/
def Obligations.StepKeepsTheInvariant : Prop :=
  ∀ s t : State, s.Inv → step s = .next t → t.Inv

/-- 48_session_interface.md R311 and R312: the poll loop stops at the first accepted event; a timeout
changes no state, and is reported by nothing or by a record's Payload with status 3, whichever way
the open `HOST_TIMEOUT_CONVENTION` stands (92_eei_decisions.md D23, notes/assumptions/8.md). -/
def Obligations.AvailableStopsAtTheFirstAcceptance : Prop :=
  ∀ (evs : List Event) (s : State),
    (∃ (before : List Event) (e : Event) (after : List Event) (t : State),
      evs = before ++ e :: after ∧
      (∀ k < before.length, (deliver (before.take (k + 1)) s).out.accepted = none) ∧
      t = deliver (before ++ [e]) s ∧ t.out.accepted.isSome = true ∧
      available evs s = (t.out.payload, t, after)) ∨
    ((∀ k < evs.length, (deliver (evs.take (k + 1)) s).out.accepted = none) ∧
      (available evs s).2 = (deliver evs s, []) ∧
      ((available evs s).1 = none ∨
        ∃ dev : Device,
          (available evs s).1 = some (createPayload ((deliver evs s).device dev) 3#8)))

/-! ### What the host can do -/

/-- 00_scope.md section 3: the host can do exactly three things to the core. A command of the host
that a step carries out is an event, a reset or a request for a payload image, and each of the
three, with every operand, is carried out. That anything else on the host's side is refused rather
than absent, and the frames, are the model's own (notes/assumptions/2.md). -/
def Obligations.HostDoesExactlyThreeThings : Prop :=
  (∀ (s : State) (f : Frame) (rest : List Command), s.input = ⟨.host, f⟩ :: rest →
    (∃ (l : Level) (d : Duration), f = encode (.event l d) ∧
      step s = exec (.event l d) { s with input := rest }) ∨
    (f = encode .start ∧ step s = exec .start { s with input := rest }) ∨
    (∃ (dev : Device) (st : Byte), f = encode (.createPayload dev st) ∧
      step s = exec (.createPayload dev st) { s with input := rest }) ∨
    (∃ e : DecodeError, step s = .refused (.undecodable e))) ∧
  (∀ (s : State) (c : HostCommand) (rest : List Command), s.input = c.command :: rest →
    ∃ t : State, step s = .next t ∧ exec c.instr { s with input := rest } = .next t)

/-- 60_exceptions.md section 5: only the dispatcher issues `CLEAR` and `VALIDATE`. Issued by the
dispatcher they are carried out; the host has no way to issue them, which the model shows as a
refusal of its own (notes/assumptions/2.md). -/
def Obligations.OnlyTheDispatcherClearsAndValidates : Prop :=
  ∀ (s : State) (who : Issuer) (f : Frame) (rest : List Command) (i : Instr),
    s.input = ⟨who, f⟩ :: rest → decode f = .ok i →
    ((∃ m : Model, i = .clear m) ∨ ∃ (dev : Device) (w : Cand), i = .validate dev w) →
    (who = .dispatcher → step s = exec i { s with input := rest }) ∧
    (who = .host → step s = .refused (.undecodable .wrongIssuer))

/-- A machine whose commands all come from the host never stops and stays so: it is so after reset,
whatever the host issues keeps it so and changes nothing else, and every step from it answers a
next state. The command stream is the model's own (notes/assumptions/2.md). -/
def Obligations.HostDrivenMachinesNeverStop : Prop :=
  State.reset.HostDriven ∧
  (∀ (s : State) (c : HostCommand), s.HostDriven → (hostIssue c s).HostDriven ∧
    hostIssue c s = { s with input := (hostIssue c s).input }) ∧
  (∀ s : State, s.HostDriven → ∃ t : State, step s = .next t ∧ t.HostDriven ∧
    t.input = s.input.tail)

/-- 10_state.md section 3, "The host may read every field; it may write none": a command of the host
changes a device record only where it is a reset, or an event that the device accepts. -/
def Obligations.HostWritesNoDeviceRecord : Prop :=
  ∀ (s t : State) (f : Frame) (rest : List Command) (dev : Device), s.Inv →
    s.input = ⟨.host, f⟩ :: rest → step s = .next t → t.device dev ≠ s.device dev →
    f = encode .start ∨
      ((∃ (l : Level) (d : Duration), f = encode (.event l d)) ∧ t.out.accepted = some dev)
end

