-- ==== Sys2Proof/Laws/Decode.lean ====
section
/-!
SUPPORT. The frame: its three parts and their bits, and the small lemmas of the unit numbers and
of the event operand.
-/

namespace Sys2Proof

/-! ### A frame is its three parts -/

@[simp] theorem frameUnit_mkFrame (u p : Byte) (o : BitVec 64) : frameUnit (mkFrame u p o) = u := by
  ext i hi
  have hp : BitVec.getLsbD p (72 + i - 64) = false := BitVec.getLsbD_of_ge _ _ (by omega)
  have ho : BitVec.getLsbD o (72 + i) = false := BitVec.getLsbD_of_ge _ _ (by omega)
  have h : 72 + i < 80 := by omega
  simp [frameUnit, mkFrame, hi, hp, ho, h]

@[simp] theorem framePort_mkFrame (u p : Byte) (o : BitVec 64) : framePort (mkFrame u p o) = p := by
  ext i hi
  have h : 64 + i < 80 := by omega
  have hu : 64 + i < 72 := by omega
  simp [framePort, mkFrame, hi, h, hu]

@[simp] theorem frameOperand_mkFrame (u p : Byte) (o : BitVec 64) :
    frameOperand (mkFrame u p o) = o := by
  ext i hi
  have h : i < 80 := by omega
  have hu : i < 72 := by omega
  simp [frameOperand, mkFrame, hi, h, hu]

/-- The other way round: a frame is made of its parts, so no bit of it is dropped. -/
theorem mkFrame_parts (f : Frame) : mkFrame (frameUnit f) (framePort f) (frameOperand f) = f := by
  ext i hi
  by_cases h64 : i < 64
  · have h72 : i < 72 := by omega
    simp [frameUnit, framePort, frameOperand, mkFrame, hi, h64, h72]
  · by_cases h72 : i < 72
    · have h : i - 64 < 8 := by omega
      have e : 64 + (i - 64) = i := by omega
      simp [frameUnit, framePort, frameOperand, mkFrame, hi, h64, h72, h, e]
    · have h : i - 72 < 8 := by omega
      have e : 72 + (i - 72) = i := by omega
      have h' : ¬ i - 64 < 8 := by omega
      simp [frameUnit, framePort, frameOperand, mkFrame, hi, h64, h72, h, e, h']

/-! ### Unit numbers -/

@[simp] theorem unitModel_modelUnit (m : Model) : unitModel (modelUnit m) = some m := by
  cases m <;> rfl

@[simp] theorem unitDevice_deviceUnit (dev : Device) : unitDevice (deviceUnit dev) = some dev := by
  cases dev <;> rfl

/-- A unit that names a model is that model's number. -/
theorem modelUnit_of_unitModel (u : Byte) (m : Model) (h : unitModel u = some m) :
    modelUnit m = u := by
  unfold unitModel at h
  split at h
  · next hu => cases h; exact hu.symm
  · split at h
    · next hu => cases h; exact hu.symm
    · cases h

/-- A unit that names a device is that device's number. -/
theorem deviceUnit_of_unitDevice (u : Byte) (dev : Device) (h : unitDevice u = some dev) :
    deviceUnit dev = u := by
  unfold unitDevice at h
  split at h
  · next hu => cases h; exact hu.symm
  · split at h
    · next hu => cases h; exact hu.symm
    · split at h
      · next hu => cases h; exact hu.symm
      · cases h

/-! ### Issuers -/

/-- All that decoding for an issuer can answer: a command that this issuer issues. -/
theorem decodeFor_ok (who : Issuer) (f : Frame) (i : Instr) :
    decodeFor who f = .ok i ↔ decode f = .ok i ∧ who ∈ i.issuers := by
  unfold decodeFor
  cases decode f with
  | rejected e => simp
  | ok j => by_cases h : who ∈ j.issuers <;> simp [h] <;> rintro rfl <;> exact h

/-- The host issues each of its three things. -/
@[simp] theorem host_mem_issuers (c : HostCommand) : Issuer.host ∈ c.instr.issuers := by
  cases c <;> simp [HostCommand.instr, Instr.issuers]

@[simp] theorem HostCommand.command_issuer (c : HostCommand) : c.command.issuer = .host := rfl
@[simp] theorem HostCommand.command_frame (c : HostCommand) : c.command.frame = encode c.instr := rfl

/-! ### Operands -/

@[simp] theorem operandLevel_eventOperand (l : Level) (d : Duration) :
    operandLevel (eventOperand l d) = l := by
  cases l <;> simp [operandLevel, eventOperand, eventWord]

@[simp] theorem operandDuration_eventOperand (l : Level) (d : Duration) :
    operandDuration (eventOperand l d) = d := by
  ext i hi
  simp [operandDuration, eventOperand, eventWord, hi]
  omega

@[simp] theorem operandStatus_setWidth (st : Byte) : operandStatus (st.setWidth 64) = st := by
  ext i hi
  simp [operandStatus, hi]
  omega

/-- An event's operand decodes to the row of the event. -/
@[simp] theorem decodeEventOperand_eventOperand (k : Level → Duration → Instr) (l : Level)
    (d : Duration) : decodeEventOperand k (eventOperand l d) = .ok (k l d) := by
  simp [decodeEventOperand]

/-- All that an event operand can decode to: the row of the event it encodes. -/
theorem decodeEventOperand_ok (k : Level → Duration → Instr) (o : BitVec 64) (i : Instr)
    (h : decodeEventOperand k o = .ok i) :
    ∃ l d, o = eventOperand l d ∧ i = k l d := by
  unfold decodeEventOperand at h
  split at h
  · next ho => cases h; exact ⟨_, _, ho, rfl⟩
  · cases h

end Sys2Proof
end

