-- ==== Sys2Proof/Laws/State.lean ====
section
/-!
SUPPORT. One lemma per field per update of the state, each true by `rfl`, so that no proof unfolds a
record update.
-/

namespace Sys2Proof.Machine

/-! ### `Output.empty` -/

@[simp] theorem Output.empty_class523 : Output.empty.class523 = none := rfl
@[simp] theorem Output.empty_class609 : Output.empty.class609 = none := rfl
@[simp] theorem Output.empty_cand523 : Output.empty.cand523 = 0#64 := rfl
@[simp] theorem Output.empty_cand609 : Output.empty.cand609 = 0#64 := rfl
@[simp] theorem Output.empty_validations : Output.empty.validations = [] := rfl
@[simp] theorem Output.empty_accepted : Output.empty.accepted = none := rfl
@[simp] theorem Output.empty_payload : Output.empty.payload = none := rfl
@[simp] theorem Output.empty_statsStrobe : Output.empty.statsStrobe = none := rfl

/-! ### `openChunk523` -/

@[simp] theorem openChunk523_bitstream (s : Framing523) : (openChunk523 s).bitstream = 0#64 := rfl
@[simp] theorem openChunk523_bitstreamSize (s : Framing523) : (openChunk523 s).bitstreamSize = 0#8 := rfl
@[simp] theorem openChunk523_bitstreamOpen (s : Framing523) : (openChunk523 s).bitstreamOpen = true := rfl
@[simp] theorem openChunk523_chunkOpen (s : Framing523) : (openChunk523 s).chunkOpen = true := rfl
@[simp] theorem openChunk523_lastClass (s : Framing523) : (openChunk523 s).lastClass = s.lastClass := rfl
@[simp] theorem openChunk523_bitstreamOpenerCount (s : Framing523) : (openChunk523 s).bitstreamOpenerCount = s.bitstreamOpenerCount := rfl

/-! ### `closeBitstream523` -/

@[simp] theorem closeBitstream523_bitstream (s : Framing523) : (closeBitstream523 s).bitstream = 0#64 := rfl
@[simp] theorem closeBitstream523_bitstreamSize (s : Framing523) : (closeBitstream523 s).bitstreamSize = 0#8 := rfl
@[simp] theorem closeBitstream523_bitstreamOpen (s : Framing523) : (closeBitstream523 s).bitstreamOpen = false := rfl
@[simp] theorem closeBitstream523_chunkOpen (s : Framing523) : (closeBitstream523 s).chunkOpen = s.chunkOpen := rfl
@[simp] theorem closeBitstream523_lastClass (s : Framing523) : (closeBitstream523 s).lastClass = s.lastClass := rfl
@[simp] theorem closeBitstream523_bitstreamOpenerCount (s : Framing523) : (closeBitstream523 s).bitstreamOpenerCount = s.bitstreamOpenerCount := rfl

/-! ### `closeChunk523` -/

@[simp] theorem closeChunk523_bitstream (s : Framing523) : (closeChunk523 s).bitstream = 0#64 := rfl
@[simp] theorem closeChunk523_bitstreamSize (s : Framing523) : (closeChunk523 s).bitstreamSize = 0#8 := rfl
@[simp] theorem closeChunk523_bitstreamOpen (s : Framing523) : (closeChunk523 s).bitstreamOpen = false := rfl
@[simp] theorem closeChunk523_chunkOpen (s : Framing523) : (closeChunk523 s).chunkOpen = false := rfl
@[simp] theorem closeChunk523_lastClass (s : Framing523) : (closeChunk523 s).lastClass = s.lastClass := rfl
@[simp] theorem closeChunk523_bitstreamOpenerCount (s : Framing523) : (closeChunk523 s).bitstreamOpenerCount = 0#8 := rfl

/-! ### `clear523` -/

@[simp] theorem clear523_bitstream (s : Framing523) : (clear523 s).bitstream = 0#64 := rfl
@[simp] theorem clear523_bitstreamSize (s : Framing523) : (clear523 s).bitstreamSize = 0#8 := rfl
@[simp] theorem clear523_bitstreamOpen (s : Framing523) : (clear523 s).bitstreamOpen = false := rfl
@[simp] theorem clear523_chunkOpen (s : Framing523) : (clear523 s).chunkOpen = s.chunkOpen := rfl
@[simp] theorem clear523_lastClass (s : Framing523) : (clear523 s).lastClass = .inv := rfl
@[simp] theorem clear523_bitstreamOpenerCount (s : Framing523) : (clear523 s).bitstreamOpenerCount = 0#8 := rfl

/-! ### `openBitstream609` -/

@[simp] theorem openBitstream609_bitstream (s : Framing609) : (openBitstream609 s).bitstream = 0#64 := rfl
@[simp] theorem openBitstream609_bitstreamSize (s : Framing609) : (openBitstream609 s).bitstreamSize = 0#8 := rfl
@[simp] theorem openBitstream609_bitstreamOpen (s : Framing609) : (openBitstream609 s).bitstreamOpen = true := rfl
@[simp] theorem openBitstream609_chunkOpen (s : Framing609) : (openBitstream609 s).chunkOpen = s.chunkOpen := rfl
@[simp] theorem openBitstream609_lastClass (s : Framing609) : (openBitstream609 s).lastClass = s.lastClass := rfl

/-! ### `openChunk609` -/

@[simp] theorem openChunk609_bitstream (s : Framing609) : (openChunk609 s).bitstream = 0#64 := rfl
@[simp] theorem openChunk609_bitstreamSize (s : Framing609) : (openChunk609 s).bitstreamSize = 0#8 := rfl
@[simp] theorem openChunk609_bitstreamOpen (s : Framing609) : (openChunk609 s).bitstreamOpen = true := rfl
@[simp] theorem openChunk609_chunkOpen (s : Framing609) : (openChunk609 s).chunkOpen = true := rfl
@[simp] theorem openChunk609_lastClass (s : Framing609) : (openChunk609 s).lastClass = s.lastClass := rfl

/-! ### `closeBitstream609` -/

@[simp] theorem closeBitstream609_bitstream (s : Framing609) : (closeBitstream609 s).bitstream = 0#64 := rfl
@[simp] theorem closeBitstream609_bitstreamSize (s : Framing609) : (closeBitstream609 s).bitstreamSize = 0#8 := rfl
@[simp] theorem closeBitstream609_bitstreamOpen (s : Framing609) : (closeBitstream609 s).bitstreamOpen = false := rfl
@[simp] theorem closeBitstream609_chunkOpen (s : Framing609) : (closeBitstream609 s).chunkOpen = s.chunkOpen := rfl
@[simp] theorem closeBitstream609_lastClass (s : Framing609) : (closeBitstream609 s).lastClass = s.lastClass := rfl

/-! ### `closeChunk609` -/

@[simp] theorem closeChunk609_bitstream (s : Framing609) : (closeChunk609 s).bitstream = 0#64 := rfl
@[simp] theorem closeChunk609_bitstreamSize (s : Framing609) : (closeChunk609 s).bitstreamSize = 0#8 := rfl
@[simp] theorem closeChunk609_bitstreamOpen (s : Framing609) : (closeChunk609 s).bitstreamOpen = false := rfl
@[simp] theorem closeChunk609_chunkOpen (s : Framing609) : (closeChunk609 s).chunkOpen = false := rfl
@[simp] theorem closeChunk609_lastClass (s : Framing609) : (closeChunk609 s).lastClass = s.lastClass := rfl

/-! ### `clear609`, the reset record -/

@[simp] theorem clear609_eq_reset (s : Framing609) : clear609 s = Framing609.reset := rfl

/-! ### `withLast523`, `withLast609` -/

@[simp] theorem withLast523_fst_bitstream (r : Framing523 × Cand) (c : Class523) :
    (withLast523 r c).1.bitstream = r.1.bitstream := rfl
@[simp] theorem withLast523_fst_bitstreamSize (r : Framing523 × Cand) (c : Class523) :
    (withLast523 r c).1.bitstreamSize = r.1.bitstreamSize := rfl
@[simp] theorem withLast523_fst_bitstreamOpen (r : Framing523 × Cand) (c : Class523) :
    (withLast523 r c).1.bitstreamOpen = r.1.bitstreamOpen := rfl
@[simp] theorem withLast523_fst_chunkOpen (r : Framing523 × Cand) (c : Class523) :
    (withLast523 r c).1.chunkOpen = r.1.chunkOpen := rfl
@[simp] theorem withLast523_fst_lastClass (r : Framing523 × Cand) (c : Class523) :
    (withLast523 r c).1.lastClass = c := rfl
@[simp] theorem withLast523_fst_bitstreamOpenerCount (r : Framing523 × Cand) (c : Class523) :
    (withLast523 r c).1.bitstreamOpenerCount = r.1.bitstreamOpenerCount := rfl
@[simp] theorem withLast523_snd (r : Framing523 × Cand) (c : Class523) :
    (withLast523 r c).2 = r.2 := rfl
@[simp] theorem withLast609_fst_bitstream (r : Framing609 × Cand) (c : Class609) :
    (withLast609 r c).1.bitstream = r.1.bitstream := rfl
@[simp] theorem withLast609_fst_bitstreamSize (r : Framing609 × Cand) (c : Class609) :
    (withLast609 r c).1.bitstreamSize = r.1.bitstreamSize := rfl
@[simp] theorem withLast609_fst_bitstreamOpen (r : Framing609 × Cand) (c : Class609) :
    (withLast609 r c).1.bitstreamOpen = r.1.bitstreamOpen := rfl
@[simp] theorem withLast609_fst_chunkOpen (r : Framing609 × Cand) (c : Class609) :
    (withLast609 r c).1.chunkOpen = r.1.chunkOpen := rfl
@[simp] theorem withLast609_fst_lastClass (r : Framing609 × Cand) (c : Class609) :
    (withLast609 r c).1.lastClass = c := rfl
@[simp] theorem withLast609_snd (r : Framing609 × Cand) (c : Class609) :
    (withLast609 r c).2 = r.2 := rfl

/-! ### `framed523`, `framed609` -/

@[simp] theorem framed523_f523 (s : State) (c : Class523) (r : Framing523 × Cand) :
    (framed523 s c r).f523 = r.1 := rfl
@[simp] theorem framed523_f609 (s : State) (c : Class523) (r : Framing523 × Cand) :
    (framed523 s c r).f609 = s.f609 := rfl
@[simp] theorem framed523_freezer (s : State) (c : Class523) (r : Framing523 × Cand) :
    (framed523 s c r).freezer = s.freezer := rfl
@[simp] theorem framed523_fridge (s : State) (c : Class523) (r : Framing523 × Cand) :
    (framed523 s c r).fridge = s.fridge := rfl
@[simp] theorem framed523_outdoor (s : State) (c : Class523) (r : Framing523 × Cand) :
    (framed523 s c r).outdoor = s.outdoor := rfl
@[simp] theorem framed523_input (s : State) (c : Class523) (r : Framing523 × Cand) :
    (framed523 s c r).input = s.input := rfl
@[simp] theorem framed523_out_cand523 (s : State) (c : Class523) (r : Framing523 × Cand) :
    (framed523 s c r).out.cand523 = r.2 := rfl
@[simp] theorem framed609_f523 (s : State) (c : Class609) (r : Framing609 × Cand) :
    (framed609 s c r).f523 = s.f523 := rfl
@[simp] theorem framed609_f609 (s : State) (c : Class609) (r : Framing609 × Cand) :
    (framed609 s c r).f609 = r.1 := rfl
@[simp] theorem framed609_freezer (s : State) (c : Class609) (r : Framing609 × Cand) :
    (framed609 s c r).freezer = s.freezer := rfl
@[simp] theorem framed609_fridge (s : State) (c : Class609) (r : Framing609 × Cand) :
    (framed609 s c r).fridge = s.fridge := rfl
@[simp] theorem framed609_outdoor (s : State) (c : Class609) (r : Framing609 × Cand) :
    (framed609 s c r).outdoor = s.outdoor := rfl
@[simp] theorem framed609_input (s : State) (c : Class609) (r : Framing609 × Cand) :
    (framed609 s c r).input = s.input := rfl
@[simp] theorem framed609_out_cand609 (s : State) (c : Class609) (r : Framing609 × Cand) :
    (framed609 s c r).out.cand609 = r.2 := rfl

/-! ### `setDevice` -/

@[simp] theorem setDevice_f523 (s : State) (dev : Device) (r : DeviceRecord) :
    (s.setDevice dev r).f523 = s.f523 := by cases dev <;> rfl
@[simp] theorem setDevice_f609 (s : State) (dev : Device) (r : DeviceRecord) :
    (s.setDevice dev r).f609 = s.f609 := by cases dev <;> rfl
@[simp] theorem setDevice_input (s : State) (dev : Device) (r : DeviceRecord) :
    (s.setDevice dev r).input = s.input := by cases dev <;> rfl
@[simp] theorem setDevice_out (s : State) (dev : Device) (r : DeviceRecord) :
    (s.setDevice dev r).out = s.out := by cases dev <;> rfl
@[simp] theorem setDevice_device (s : State) (dev : Device) (r : DeviceRecord) :
    (s.setDevice dev r).device dev = r := by cases dev <;> rfl

/-- Writing one record leaves the others alone. -/
theorem setDevice_device_of_ne (s : State) (dev dev' : Device) (r : DeviceRecord) (h : dev' ≠ dev) :
    (s.setDevice dev r).device dev' = s.device dev' := by
  cases dev <;> cases dev' <;> first | rfl | exact absurd rfl h

/-- Writing a record back leaves the state as it is. -/
@[simp] theorem setDevice_self (s : State) (dev : Device) : s.setDevice dev (s.device dev) = s := by
  cases dev <;> rfl

/-! ### `accept` -/

@[simp] theorem accept_freezer (s : State) (dev : Device) : (accept s dev).freezer = s.freezer := rfl
@[simp] theorem accept_fridge (s : State) (dev : Device) : (accept s dev).fridge = s.fridge := rfl
@[simp] theorem accept_outdoor (s : State) (dev : Device) : (accept s dev).outdoor = s.outdoor := rfl
@[simp] theorem accept_input (s : State) (dev : Device) : (accept s dev).input = s.input := rfl
@[simp] theorem accept_f523 (s : State) (dev : Device) : (accept s dev).f523 = clear523 s.f523 := rfl
@[simp] theorem accept_f609 (s : State) (dev : Device) : (accept s dev).f609 = clear609 s.f609 := rfl
@[simp] theorem accept_device (s : State) (dev dev' : Device) :
    (accept s dev).device dev' = s.device dev' := by cases dev' <;> rfl
@[simp] theorem accept_out_accepted (s : State) (dev : Device) :
    (accept s dev).out.accepted = some (s.device dev).deviceId := rfl

/-! ### `frameEvent` -/

@[simp] theorem frameEvent_f523 (s : State) (l : Level) (d : Duration) :
    (frameEvent s l d).f523 = (parseRf523 s.f523 l d).1 := rfl
@[simp] theorem frameEvent_f609 (s : State) (l : Level) (d : Duration) :
    (frameEvent s l d).f609 = (parseRf609 s.f609 l d).1 := rfl
@[simp] theorem frameEvent_freezer (s : State) (l : Level) (d : Duration) :
    (frameEvent s l d).freezer = s.freezer := rfl
@[simp] theorem frameEvent_fridge (s : State) (l : Level) (d : Duration) :
    (frameEvent s l d).fridge = s.fridge := rfl
@[simp] theorem frameEvent_outdoor (s : State) (l : Level) (d : Duration) :
    (frameEvent s l d).outdoor = s.outdoor := rfl
@[simp] theorem frameEvent_input (s : State) (l : Level) (d : Duration) :
    (frameEvent s l d).input = s.input := rfl
@[simp] theorem frameEvent_device (s : State) (l : Level) (d : Duration) (dev : Device) :
    (frameEvent s l d).device dev = s.device dev := by cases dev <;> rfl
@[simp] theorem frameEvent_cand523 (s : State) (l : Level) (d : Duration) :
    (frameEvent s l d).out.cand .m523 = (parseRf523 s.f523 l d).2 := rfl
@[simp] theorem frameEvent_cand609 (s : State) (l : Level) (d : Duration) :
    (frameEvent s l d).out.cand .m609 = (parseRf609 s.f609 l d).2 := rfl

/-! ### The command stream -/

@[simp] theorem putNext_input (s : State) (c : Command) : (putNext s c).input = c :: s.input := rfl

/-- The command put next is the one taken next, and the rest of the state is as it was. -/
@[simp] theorem fetch_putNext (s : State) (c : Command) : fetch (putNext s c) = some (c, s) := rfl

/-- All that `fetch` does: it takes the head of the command stream and changes nothing else. -/
theorem fetch_some (s s1 : State) (c : Command) (h : fetch s = some (c, s1)) :
    ∃ rest, s.input = c :: rest ∧ s1 = { s with input := rest } := by
  unfold fetch at h
  split at h
  · cases h
  · next g rest heq => cases h; exact ⟨rest, heq, rfl⟩

end Sys2Proof.Machine
end

