-- ==== Sys2Proof/Laws/Validate.lean ====
section
/-!
SUPPORT. What a validator call can do: the two outcomes, and the state they leave.
-/

namespace Sys2Proof.Machine

/-- A bit field as a number. -/
theorem field_toNat (w : Cand) (lo n : Nat) : (field w lo n).toNat = w.toNat / 2 ^ lo % 2 ^ n := by
  simp [field, Nat.shiftRight_eq_div_pow]

/-- All that a 00523 validator can answer. -/
theorem validate523_cases (r : DeviceRecord) (w : Cand) :
    (∃ reason, check523 r w = .reject reason ∧ validate523 r w = (.reject reason, r)) ∨
    (check523 r w = .accept ∧ validate523 r w = (.accept, latch523 r w)) := by
  unfold validate523
  cases h : check523 r w with
  | accept => exact .inr ⟨rfl, rfl⟩
  | reject reason => exact .inl ⟨reason, rfl, rfl⟩

/-- All that a 00609 validator can answer. -/
theorem validate609_cases (r : DeviceRecord) (w : Cand) :
    (∃ reason, check609 r w = .reject reason ∧ validate609 r w = (.reject reason, r)) ∨
    (check609 r w = .accept ∧ validate609 r w = (.accept, latch609 r w)) := by
  unfold validate609
  cases h : check609 r w with
  | accept => exact .inr ⟨rfl, rfl⟩
  | reject reason => exact .inl ⟨reason, rfl, rfl⟩

/-- What an accepted 00523 word has passed. -/
theorem check523_accept (r : DeviceRecord) (w : Cand) (h : check523 r w = .accept) :
    c523Word w ≠ 0#48 ∧ c523Signature w = r.signature ∧
    laneSum w [5, 4, 3, 2, 1] = (c523Checksum w).toNat ∧
    popcount (c523Byte1 w) % 2 = (c523Parity1 w).toNat ∧
    popcount (c523Byte2 w) % 2 = (c523Parity2 w).toNat ∧
    -720 ≤ c523Temp w ∧ c523Temp w < 1260 := by
  unfold check523 at h
  split at h
  · cases h
  · split at h
    · cases h
    · split at h
      · cases h
      · split at h
        · cases h
        · split at h
          · cases h
          · split at h
            · cases h
            · simp_all

/-- What an accepted 00609 word has passed. -/
theorem check609_accept (r : DeviceRecord) (w : Cand) (h : check609 r w = .accept) :
    c609Word w ≠ 0#40 ∧
    (r.signature = 0#16 ∨ (c609Signature w).setWidth 16 = r.signature) ∧
    c609Channel w = 2#2 ∧ laneSum w [4, 3, 2, 1] = (c609Checksum w).toNat ∧
    1 ≤ (c609Hum w).toNat ∧ (c609Hum w).toNat ≤ 99 ∧ -800 ≤ c609Temp w ∧ c609Temp w ≤ 1400 := by
  unfold check609 at h
  split at h
  · cases h
  · split at h
    · cases h
    · split at h
      · cases h
      · split at h
        · cases h
        · split at h
          · cases h
          · simp_all
            tauto

/-- A rejection leaves the record as it was (60_exceptions.md R322). -/
theorem runValidator_reject (dev : Device) (r : DeviceRecord) (w : Cand)
    (h : (runValidator dev r w).1 ≠ .accept) : (runValidator dev r w).2 = r := by
  unfold runValidator at *
  cases dev <;> simp only at *
  · obtain ⟨_, _, e⟩ | ⟨_, e⟩ := validate523_cases r w <;> simp_all
  · obtain ⟨_, _, e⟩ | ⟨_, e⟩ := validate523_cases r w <;> simp_all
  · obtain ⟨_, _, e⟩ | ⟨_, e⟩ := validate609_cases r w <;> simp_all

@[simp] theorem validateDevice_f523 (s : State) (dev : Device) (w : Cand) :
    (validateDevice s dev w).f523 = s.f523 := by cases dev <;> rfl
@[simp] theorem validateDevice_f609 (s : State) (dev : Device) (w : Cand) :
    (validateDevice s dev w).f609 = s.f609 := by cases dev <;> rfl
@[simp] theorem validateDevice_input (s : State) (dev : Device) (w : Cand) :
    (validateDevice s dev w).input = s.input := by cases dev <;> rfl
@[simp] theorem validateDevice_device (s : State) (dev : Device) (w : Cand) :
    (validateDevice s dev w).device dev = (runValidator dev (s.device dev) w).2 := by
  cases dev <;> rfl

/-- A validator call writes no record but its own device's. -/
theorem validateDevice_device_of_ne (s : State) (dev dev' : Device) (w : Cand) (h : dev' ≠ dev) :
    (validateDevice s dev w).device dev' = s.device dev' := by
  cases dev <;> cases dev' <;> first | rfl | exact absurd rfl h

/-- The call and its result, added at the observation point. -/
theorem validateDevice_out (s : State) (dev : Device) (w : Cand) :
    (validateDevice s dev w).out =
      { s.out with validations :=
          s.out.validations ++ [(dev, (runValidator dev (s.device dev) w).1)] } := by
  cases dev <;> rfl

/-- A call that rejects leaves everything but the observation point as it was. -/
theorem validateDevice_reject (s : State) (dev : Device) (w : Cand)
    (h : (runValidator dev (s.device dev) w).1 ≠ .accept) :
    validateDevice s dev w =
      { s with out := { s.out with validations :=
          s.out.validations ++ [(dev, (runValidator dev (s.device dev) w).1)] } } := by
  simp only [validateDevice]
  rw [runValidator_reject dev _ w h, setDevice_self]

end Sys2Proof.Machine
end

