-- ==== Sys2Proof/Laws/Dispatcher.lean ====
section
/-!
SUPPORT. What offering a candidate and polling the models can do: either nobody accepts and only the
observation point grows, or exactly one device accepts and the step ends with `accept`.
-/

namespace Sys2Proof.Machine

/-- The state with other validator calls at the observation point. -/
def withCalls (s : State) (calls : List (Device × Result)) : State :=
  { s with out := { s.out with validations := calls } }

@[simp] theorem withCalls_f523 (s : State) (c : List (Device × Result)) :
    (withCalls s c).f523 = s.f523 := rfl
@[simp] theorem withCalls_f609 (s : State) (c : List (Device × Result)) :
    (withCalls s c).f609 = s.f609 := rfl
@[simp] theorem withCalls_freezer (s : State) (c : List (Device × Result)) :
    (withCalls s c).freezer = s.freezer := rfl
@[simp] theorem withCalls_fridge (s : State) (c : List (Device × Result)) :
    (withCalls s c).fridge = s.fridge := rfl
@[simp] theorem withCalls_outdoor (s : State) (c : List (Device × Result)) :
    (withCalls s c).outdoor = s.outdoor := rfl
@[simp] theorem withCalls_input (s : State) (c : List (Device × Result)) :
    (withCalls s c).input = s.input := rfl
@[simp] theorem withCalls_device (s : State) (c : List (Device × Result)) (dev : Device) :
    (withCalls s c).device dev = s.device dev := by cases dev <;> rfl
@[simp] theorem withCalls_cand (s : State) (c : List (Device × Result)) (m : Model) :
    (withCalls s c).out.cand m = s.out.cand m := by cases m <;> rfl
@[simp] theorem withCalls_accepted (s : State) (c : List (Device × Result)) :
    (withCalls s c).out.accepted = s.out.accepted := rfl
@[simp] theorem withCalls_payload (s : State) (c : List (Device × Result)) :
    (withCalls s c).out.payload = s.out.payload := rfl
@[simp] theorem withCalls_statsStrobe (s : State) (c : List (Device × Result)) :
    (withCalls s c).out.statsStrobe = s.out.statsStrobe := rfl
@[simp] theorem withCalls_withCalls (s : State) (c c' : List (Device × Result)) :
    withCalls (withCalls s c) c' = withCalls s c' := rfl
@[simp] theorem withCalls_self (s : State) : withCalls s s.out.validations = s := rfl

/-- All that offering a word to devices can do. -/
theorem offer_cases (w : Cand) (devs : List Device) (s : State) :
    (∃ calls, offer w devs s = (withCalls s calls, false)) ∨
    (∃ dev calls, dev ∈ devs ∧ (runValidator dev (s.device dev) w).1 = .accept ∧
      offer w devs s = (accept (validateDevice (withCalls s calls) dev w) dev, true)) := by
  induction devs generalizing s with
  | nil => exact .inl ⟨s.out.validations, rfl⟩
  | cons dev rest ih =>
    by_cases h : (runValidator dev (s.device dev) w).1 = .accept
    · exact .inr ⟨dev, s.out.validations, by simp, h, by simp [offer, h]⟩
    · have hr := validateDevice_reject s dev w h
      have ho : offer w (dev :: rest) s = offer w rest (validateDevice s dev w) := by
        simp [offer, h]
      rw [ho, hr]
      have := ih (withCalls s
        (s.out.validations ++ [(dev, (runValidator dev (s.device dev) w).1)]))
      obtain ⟨calls, e⟩ | ⟨dev', calls, hm, ha, e⟩ := this
      · exact .inl ⟨calls, e⟩
      · exact .inr ⟨dev', calls, by simp [hm], by simpa using ha, e⟩

/-- All that polling the models can do. -/
theorem dispatch_cases (bs : List (Model × List Device)) (s : State) :
    (∃ calls, dispatch bs s = withCalls s calls) ∨
    (∃ m devs dev calls, (m, devs) ∈ bs ∧ dev ∈ devs ∧ s.out.cand m ≠ 0#64 ∧
      (runValidator dev (s.device dev) (s.out.cand m)).1 = .accept ∧
      dispatch bs s = accept (validateDevice (withCalls s calls) dev (s.out.cand m)) dev) := by
  induction bs generalizing s with
  | nil => exact .inl ⟨s.out.validations, rfl⟩
  | cons b rest ih =>
    obtain ⟨m, devs⟩ := b
    by_cases h0 : s.out.cand m = 0#64
    · have e : dispatch ((m, devs) :: rest) s = dispatch rest s := by simp [dispatch, h0]
      rw [e]
      obtain ⟨calls, e⟩ | ⟨m', devs', dev, calls, hb, hd, hc, ha, e⟩ := ih s
      · exact .inl ⟨calls, e⟩
      · exact .inr ⟨m', devs', dev, calls, by simp [hb], hd, hc, ha, e⟩
    · obtain ⟨calls, e⟩ | ⟨dev, calls, hd, ha, e⟩ := offer_cases (s.out.cand m) devs s
      · have e' : dispatch ((m, devs) :: rest) s = dispatch rest (withCalls s calls) := by
          simp [dispatch, h0, e]
        rw [e']
        obtain ⟨calls', e⟩ | ⟨m', devs', dev, calls', hb, hd, hc, ha, e⟩ :=
          ih (withCalls s calls)
        · exact .inl ⟨calls', e⟩
        · exact .inr ⟨m', devs', dev, calls', by simp [hb], hd, by simpa using hc,
            by simpa using ha, by simpa using e⟩
      · exact .inr ⟨m, devs, dev, calls, by simp, hd, h0, ha, by simp [dispatch, h0, e]⟩

/-- All that one event can do (46_dispatcher.md R271): the framed event with nobody accepting, or one
bound device accepting the candidate of its model. -/
theorem eventStep_cases (s : State) (l : Level) (d : Duration) :
    (∃ calls, eventStep s l d = withCalls (frameEvent s l d) calls) ∨
    (∃ dev calls, (frameEvent s l d).out.cand (Config.deviceModel dev) ≠ 0#64 ∧
      (runValidator dev (s.device dev)
        ((frameEvent s l d).out.cand (Config.deviceModel dev))).1 = .accept ∧
      eventStep s l d = accept (validateDevice (withCalls (frameEvent s l d) calls) dev
        ((frameEvent s l d).out.cand (Config.deviceModel dev))) dev) := by
  obtain ⟨calls, e⟩ | ⟨m, devs, dev, calls, hb, hd, hc, ha, e⟩ :=
    dispatch_cases Config.bindings (frameEvent s l d)
  · exact .inl ⟨calls, e⟩
  · have hm : Config.deviceModel dev = m := by
      simp [Config.bindings] at hb
      rcases hb with ⟨rfl, rfl⟩ | ⟨rfl, rfl⟩
      · simp at hd
        rcases hd with rfl | rfl <;> rfl
      · simp at hd
        rcases hd with rfl
        rfl
    subst hm
    exact .inr ⟨dev, calls, hc, by simpa using ha, e⟩

end Sys2Proof.Machine
end

