-- ==== Sys2Proof/Laws/Framing.lean ====
section
/-!
SUPPORT. What the shared operations of the framing machines can do, once each.
-/

namespace Sys2Proof.Machine

/-- The 8-bit size goes up by one without wrapping while it is below 255. -/
theorem size_succ (n : BitVec 8) (h : n.toNat < 255) : (n + 1#8).toNat = n.toNat + 1 := by
  rw [BitVec.toNat_add]
  simp
  omega

/-- All that storing a bit of 00523 can do below the 48th: it grows the buffer. -/
theorem storeBit523_grows (s : Framing523) (b : Bool) (h : s.bitstreamSize.toNat + 1 < 48) :
    storeBit523 s b =
      ({ s with
         bitstream := if b then s.bitstream ||| (1#64 <<< (47 - s.bitstreamSize.toNat))
           else s.bitstream
         bitstreamSize := s.bitstreamSize + 1#8 }, 0#64) := by
  have hs := size_succ s.bitstreamSize (by omega)
  unfold storeBit523
  rw [if_neg (by rw [hs]; simp; omega)]
  rfl

/-- All that storing the 48th bit of 00523 can do: it emits the buffer and closes the bitstream. -/
theorem storeBit523_emits (s : Framing523) (b : Bool) (h : s.bitstreamSize.toNat + 1 = 48) :
    storeBit523 s b =
      (closeBitstream523 s,
       if b then s.bitstream ||| (1#64 <<< (47 - s.bitstreamSize.toNat)) else s.bitstream) := by
  have hs := size_succ s.bitstreamSize (by omega)
  unfold storeBit523
  rw [if_pos (by rw [hs]; simp; omega)]
  rfl

/-- All that storing a bit of 00609 can do below the 40th: it grows the buffer. -/
theorem storeBit609_grows (s : Framing609) (b : Bool) (h : s.bitstreamSize.toNat + 1 < 40) :
    storeBit609 s b =
      ({ s with
         bitstream := if b then s.bitstream ||| (1#64 <<< (39 - s.bitstreamSize.toNat))
           else s.bitstream
         bitstreamSize := s.bitstreamSize + 1#8 }, 0#64) := by
  have hs := size_succ s.bitstreamSize (by omega)
  unfold storeBit609
  rw [if_neg (by rw [hs]; simp; omega)]
  rfl

/-- All that storing the 40th bit of 00609 can do: it emits the buffer and closes the bitstream. -/
theorem storeBit609_emits (s : Framing609) (b : Bool) (h : s.bitstreamSize.toNat + 1 = 40) :
    storeBit609 s b =
      (closeBitstream609 s,
       if b then s.bitstream ||| (1#64 <<< (39 - s.bitstreamSize.toNat)) else s.bitstream) := by
  have hs := size_succ s.bitstreamSize (by omega)
  unfold storeBit609
  rw [if_pos (by rw [hs]; simp; omega)]
  rfl

/-- A counted `BITSTREAM_ON` that is not the fourth only counts. -/
theorem countOpener523_counts (s : Framing523) (h : s.bitstreamOpenerCount.toNat < 255)
    (h4 : s.bitstreamOpenerCount.toNat ≠ 3) :
    countOpener523 s = { s with bitstreamOpenerCount := s.bitstreamOpenerCount + 1#8 } := by
  have hs := size_succ s.bitstreamOpenerCount h
  have hne : s.bitstreamOpenerCount ≠ 255#8 := by
    intro e
    rw [e] at h
    simp at h
  have hb : bumpOpener523 s =
      { s with bitstreamOpenerCount := s.bitstreamOpenerCount + 1#8 } := by
    unfold bumpOpener523
    rw [if_neg hne]
  unfold countOpener523
  rw [hb, if_neg (by rw [hs]; simp; omega)]

/-- The fourth counted `BITSTREAM_ON` returns the count to 0 and opens a chunk if none is open. -/
theorem countOpener523_fourth (s : Framing523) (h : s.bitstreamOpenerCount = 3#8) :
    countOpener523 s =
      if s.chunkOpen then { s with bitstreamOpenerCount := 0#8 }
      else openChunk523 { s with bitstreamOpenerCount := 0#8 } := by
  simp [countOpener523, bumpOpener523, h]

end Sys2Proof.Machine
end

