-- ==== Sys2Proof/Laws/PerInstr.lean ====
section
/-!
SUPPORT. A law of every instruction, one lemma a constructor: its frame names its port and its unit,
so the frames of two different operations, or of one operation on two units, never coincide.
-/

namespace Sys2Proof.Laws.EncodedPort

/-- The port of an instruction: the parse port for the sixteen `EV` rows. -/
def portOf : Instr → Byte
  | .start => portStart
  | .event _ _ => portEvent
  | .clear _ => portClear
  | .validate _ _ => portValidate
  | .createPayload _ _ => portCreatePayload
  | .m523Bit0Off _ => portParse
  | .m523Bit1Off _ => portParse
  | .m523BitstreamOff _ => portParse
  | .m523Bit1On _ => portParse
  | .m523Bit0On _ => portParse
  | .m523BitstreamOn _ => portParse
  | .m523ChunkEnd _ => portParse
  | .m523Inv _ _ => portParse
  | .m609Off _ => portParse
  | .m609ChunkStart _ => portParse
  | .m609Bit0 _ => portParse
  | .m609Bit1 _ => portParse
  | .m609BitstreamStart _ => portParse
  | .m609BitstreamEnd _ => portParse
  | .m609ChunkEnd _ => portParse
  | .m609Inv _ _ => portParse

/-- The unit of an instruction: its model, its device, or 0. -/
def unitOf : Instr → Byte
  | .start => 0#8
  | .event _ _ => 0#8
  | .clear m => modelUnit m
  | .validate dev _ => deviceUnit dev
  | .createPayload dev _ => deviceUnit dev
  | .m523Bit0Off _ => modelUnit .m523
  | .m523Bit1Off _ => modelUnit .m523
  | .m523BitstreamOff _ => modelUnit .m523
  | .m523Bit1On _ => modelUnit .m523
  | .m523Bit0On _ => modelUnit .m523
  | .m523BitstreamOn _ => modelUnit .m523
  | .m523ChunkEnd _ => modelUnit .m523
  | .m523Inv _ _ => modelUnit .m523
  | .m609Off _ => modelUnit .m609
  | .m609ChunkStart _ => modelUnit .m609
  | .m609Bit0 _ => modelUnit .m609
  | .m609Bit1 _ => modelUnit .m609
  | .m609BitstreamStart _ => modelUnit .m609
  | .m609BitstreamEnd _ => modelUnit .m609
  | .m609ChunkEnd _ => modelUnit .m609
  | .m609Inv _ _ => modelUnit .m609

/-- The law: the frame of `i` carries its port and its unit. -/
def Statement (i : Instr) : Prop :=
  framePort (encode i) = portOf i ∧ frameUnit (encode i) = unitOf i

/-- A frame built from its parts carries them. -/
theorem parts (u p : Byte) (o : BitVec 64) :
    framePort (mkFrame u p o) = p ∧ frameUnit (mkFrame u p o) = u :=
  ⟨framePort_mkFrame u p o, frameUnit_mkFrame u p o⟩

theorem m523Bit0Off (d : Duration) : Statement (.m523Bit0Off d) := parts _ _ _
theorem m523Bit1Off (d : Duration) : Statement (.m523Bit1Off d) := parts _ _ _
theorem m523BitstreamOff (d : Duration) : Statement (.m523BitstreamOff d) := parts _ _ _
theorem m523Bit1On (d : Duration) : Statement (.m523Bit1On d) := parts _ _ _
theorem m523Bit0On (d : Duration) : Statement (.m523Bit0On d) := parts _ _ _
theorem m523BitstreamOn (d : Duration) : Statement (.m523BitstreamOn d) := parts _ _ _
theorem m523ChunkEnd (d : Duration) : Statement (.m523ChunkEnd d) := parts _ _ _
theorem m523Inv (l : Level) (d : Duration) : Statement (.m523Inv l d) := parts _ _ _
theorem m609Off (d : Duration) : Statement (.m609Off d) := parts _ _ _
theorem m609ChunkStart (d : Duration) : Statement (.m609ChunkStart d) := parts _ _ _
theorem m609Bit0 (d : Duration) : Statement (.m609Bit0 d) := parts _ _ _
theorem m609Bit1 (d : Duration) : Statement (.m609Bit1 d) := parts _ _ _
theorem m609BitstreamStart (d : Duration) : Statement (.m609BitstreamStart d) := parts _ _ _
theorem m609BitstreamEnd (d : Duration) : Statement (.m609BitstreamEnd d) := parts _ _ _
theorem m609ChunkEnd (d : Duration) : Statement (.m609ChunkEnd d) := parts _ _ _
theorem m609Inv (l : Level) (d : Duration) : Statement (.m609Inv l d) := parts _ _ _
theorem start : Statement .start := parts _ _ _
theorem event (l : Level) (d : Duration) : Statement (.event l d) := parts _ _ _
theorem clear (m : Model) : Statement (.clear m) := parts _ _ _
theorem validate (dev : Device) (w : Cand) : Statement (.validate dev w) := parts _ _ _
theorem createPayload (dev : Device) (st : Byte) : Statement (.createPayload dev st) := parts _ _ _

end Sys2Proof.Laws.EncodedPort
end

