-- ==== Sys2Proof/Tests/Slice0.lean ====
section
/-!
SUPPORT. The model's own tests: the refusals of `wellFormed`, words written out from
30_encoding.md, single steps taken from the tables of spec/95_test_vectors.md, and, for each
statement with hypotheses or clauses, states and operands that meet them.
-/

namespace Sys2Proof.Tests

open Sys2Proof Sys2Proof.Machine

/-! ### Helpers -/

/-- The state a command leaves, where it leaves one. -/
def after : Host.Outcome State Fault Refusal → Option State
  | .next s => some s
  | .fault _ => none
  | .refused _ => none

/-- A 00523 framing record in the column order of V22. -/
def f5 (chunk bits : Bool) (size : BitVec 8) (buffer : BitVec 64) (last : Class523)
    (count : BitVec 8) : Framing523 := ⟨buffer, size, bits, chunk, last, count⟩

/-- A 00609 framing record in the column order of V23. -/
def f6 (chunk bits : Bool) (size : BitVec 8) (buffer : BitVec 64) (last : Class609) : Framing609 :=
  ⟨buffer, size, bits, chunk, last⟩

/-- The reset state with a 00523 framing record. -/
def with5 (f : Framing523) : State := { State.reset with f523 := f }

/-- The reset state with a 00609 framing record. -/
def with6 (f : Framing609) : State := { State.reset with f609 := f }

/-- The reset state with a signature latched in the OUTDOOR record. -/
def withSig (g : BitVec 16) : State :=
  { State.reset with outdoor := { State.reset.outdoor with signature := g } }

/-- The 00523 record and candidate a command leaves. -/
def out5 (o : Host.Outcome State Fault Refusal) : Option (Framing523 × Cand) :=
  (after o).map fun s => (s.f523, s.out.cand523)

/-- The 00609 record and candidate a command leaves. -/
def out6 (o : Host.Outcome State Fault Refusal) : Option (Framing609 × Cand) :=
  (after o).map fun s => (s.f609, s.out.cand609)

/-- The validator calls of a command with their results. -/
def outV (o : Host.Outcome State Fault Refusal) : Option (List (Device × Result)) :=
  (after o).map fun s => s.out.validations

/-- The record of a device after a command. -/
def outR (dev : Device) (o : Host.Outcome State Fault Refusal) : Option DeviceRecord :=
  (after o).map fun s => s.device dev

/-- The Payload a command puts out. -/
def outP (o : Host.Outcome State Fault Refusal) : Option (List Byte) :=
  (after o).bind fun s => s.out.payload

/-! ### `wellFormed` refuses an ill-formed term at each check -/

theorem test_wf_523_bit0Off : (Instr.m523Bit0Off 300#32).wellFormed = false := by decide
theorem test_wf_523_bit1Off : (Instr.m523Bit1Off 299#32).wellFormed = false := by decide
theorem test_wf_523_bitstreamOff : (Instr.m523BitstreamOff 700#32).wellFormed = false := by decide
theorem test_wf_523_bit1On : (Instr.m523Bit1On 99#32).wellFormed = false := by decide
theorem test_wf_523_bit0On : (Instr.m523Bit0On 500#32).wellFormed = false := by decide
theorem test_wf_523_bitstreamOn : (Instr.m523BitstreamOn 499#32).wellFormed = false := by decide
theorem test_wf_523_chunkEnd : (Instr.m523ChunkEnd 60000#32).wellFormed = false := by decide
theorem test_wf_523_inv :
    (Instr.m523Inv false 100#32).wellFormed = false ∧
    (Instr.m523Inv true 20000#32).wellFormed = false := by decide
theorem test_wf_609_off : (Instr.m609Off 1200#32).wellFormed = false := by decide
theorem test_wf_609_chunkStart : (Instr.m609ChunkStart 300#32).wellFormed = false := by decide
theorem test_wf_609_bit0 : (Instr.m609Bit0 299#32).wellFormed = false := by decide
theorem test_wf_609_bit1 : (Instr.m609Bit1 3000#32).wellFormed = false := by decide
theorem test_wf_609_bitstreamStart :
    (Instr.m609BitstreamStart 9000#32).wellFormed = false := by decide
theorem test_wf_609_bitstreamEnd :
    (Instr.m609BitstreamEnd 9999#32).wellFormed = false := by decide
theorem test_wf_609_chunkEnd : (Instr.m609ChunkEnd 40000#32).wellFormed = false := by decide
theorem test_wf_609_inv :
    (Instr.m609Inv false 1199#32).wellFormed = false ∧
    (Instr.m609Inv true 8700#32).wellFormed = false := by decide

/-! ### Decoding: words written out from 30_encoding.md R80 (level at bit 32, duration below it),
R82, R83 and R95, each as unit, port and operand of the model's frame -/

/-- A frame written out part by part: the unit, the port, 31 zeros, the level and the duration. -/
def wrote (unit port : Byte) (level : BitVec 1) (d : BitVec 32) : Frame :=
  unit ++ port ++ 0#31 ++ level ++ d

/-- The events of R96 are their words: `EV 1,400` is `0x100000190`. -/
theorem test_word_ev_1_400 : wrote 0#8 0#8 1#1 400#32 = 0x100000190#80 := by decide

theorem test_decode_event :
    decode (wrote 0#8 0#8 1#1 600#32) = .ok (.event true 600#32) ∧
    decode (wrote 0#8 0#8 0#1 0xFFFFFFFF#32) = .ok (.event false 0xFFFFFFFF#32) := by decide
theorem test_decode_523_bit0Off :
    decode (wrote 0#8 1#8 0#1 100#32) = .ok (.m523Bit0Off 100#32) ∧
    decode (wrote 0#8 1#8 0#1 299#32) = .ok (.m523Bit0Off 299#32) := by decide
theorem test_decode_523_bit1Off :
    decode (wrote 0#8 1#8 0#1 300#32) = .ok (.m523Bit1Off 300#32) ∧
    decode (wrote 0#8 1#8 0#1 499#32) = .ok (.m523Bit1Off 499#32) := by decide
theorem test_decode_523_bitstreamOff :
    decode (wrote 0#8 1#8 0#1 500#32) = .ok (.m523BitstreamOff 500#32) ∧
    decode (wrote 0#8 1#8 0#1 699#32) = .ok (.m523BitstreamOff 699#32) := by decide
theorem test_decode_523_bit1On :
    decode (wrote 0#8 1#8 1#1 100#32) = .ok (.m523Bit1On 100#32) ∧
    decode (wrote 0#8 1#8 1#1 299#32) = .ok (.m523Bit1On 299#32) := by decide
theorem test_decode_523_bit0On :
    decode (wrote 0#8 1#8 1#1 300#32) = .ok (.m523Bit0On 300#32) ∧
    decode (wrote 0#8 1#8 1#1 499#32) = .ok (.m523Bit0On 499#32) := by decide
theorem test_decode_523_bitstreamOn :
    decode (wrote 0#8 1#8 1#1 500#32) = .ok (.m523BitstreamOn 500#32) ∧
    decode (wrote 0#8 1#8 1#1 699#32) = .ok (.m523BitstreamOn 699#32) := by decide
theorem test_decode_523_chunkEnd :
    decode (wrote 0#8 1#8 1#1 20000#32) = .ok (.m523ChunkEnd 20000#32) ∧
    decode (wrote 0#8 1#8 1#1 59999#32) = .ok (.m523ChunkEnd 59999#32) := by decide
theorem test_decode_523_inv :
    decode (wrote 0#8 1#8 0#1 99#32) = .ok (.m523Inv false 99#32) ∧
    decode (wrote 0#8 1#8 0#1 20000#32) = .ok (.m523Inv false 20000#32) ∧
    decode (wrote 0#8 1#8 1#1 19999#32) = .ok (.m523Inv true 19999#32) ∧
    decode (wrote 0#8 1#8 1#1 60000#32) = .ok (.m523Inv true 60000#32) := by decide
theorem test_decode_609_off :
    decode (wrote 1#8 1#8 0#1 0#32) = .ok (.m609Off 0#32) ∧
    decode (wrote 1#8 1#8 0#1 1199#32) = .ok (.m609Off 1199#32) := by decide
theorem test_decode_609_chunkStart :
    decode (wrote 1#8 1#8 1#1 0#32) = .ok (.m609ChunkStart 0#32) ∧
    decode (wrote 1#8 1#8 1#1 299#32) = .ok (.m609ChunkStart 299#32) := by decide
theorem test_decode_609_bit0 :
    decode (wrote 1#8 1#8 1#1 300#32) = .ok (.m609Bit0 300#32) ∧
    decode (wrote 1#8 1#8 1#1 1199#32) = .ok (.m609Bit0 1199#32) := by decide
theorem test_decode_609_bit1 :
    decode (wrote 1#8 1#8 1#1 1200#32) = .ok (.m609Bit1 1200#32) ∧
    decode (wrote 1#8 1#8 1#1 2999#32) = .ok (.m609Bit1 2999#32) := by decide
theorem test_decode_609_bitstreamStart :
    decode (wrote 1#8 1#8 1#1 8700#32) = .ok (.m609BitstreamStart 8700#32) ∧
    decode (wrote 1#8 1#8 1#1 8999#32) = .ok (.m609BitstreamStart 8999#32) := by decide
theorem test_decode_609_bitstreamEnd :
    decode (wrote 1#8 1#8 1#1 10000#32) = .ok (.m609BitstreamEnd 10000#32) ∧
    decode (wrote 1#8 1#8 1#1 19999#32) = .ok (.m609BitstreamEnd 19999#32) := by decide
theorem test_decode_609_chunkEnd :
    decode (wrote 1#8 1#8 1#1 20000#32) = .ok (.m609ChunkEnd 20000#32) ∧
    decode (wrote 1#8 1#8 1#1 39999#32) = .ok (.m609ChunkEnd 39999#32) := by decide
theorem test_decode_609_inv :
    decode (wrote 1#8 1#8 0#1 1200#32) = .ok (.m609Inv false 1200#32) ∧
    decode (wrote 1#8 1#8 1#1 3000#32) = .ok (.m609Inv true 3000#32) ∧
    decode (wrote 1#8 1#8 1#1 9999#32) = .ok (.m609Inv true 9999#32) ∧
    decode (wrote 1#8 1#8 1#1 40000#32) = .ok (.m609Inv true 40000#32) := by decide
theorem test_decode_start : decode (0#8 ++ 2#8 ++ 0#64) = .ok .start := by decide
theorem test_decode_clear :
    decode (0#8 ++ 3#8 ++ 0#64) = .ok (.clear .m523) ∧
    decode (1#8 ++ 3#8 ++ 0#64) = .ok (.clear .m609) := by decide
theorem test_decode_validate :
    decode (0#8 ++ 4#8 ++ 0xC049008B3CD0#64) = .ok (.validate .freezer 0xC049008B3CD0#64) ∧
    decode (1#8 ++ 4#8 ++ 0xC07C000F509B#64) = .ok (.validate .fridge 0xC07C000F509B#64) ∧
    decode (2#8 ++ 4#8 ++ 0xC0A15B25E1#64) = .ok (.validate .outdoor 0xC0A15B25E1#64) := by decide
theorem test_decode_createPayload :
    decode (0#8 ++ 5#8 ++ 3#64) = .ok (.createPayload .freezer 3#8) ∧
    decode (2#8 ++ 5#8 ++ 255#64) = .ok (.createPayload .outdoor 255#8) := by decide

/-- The frames that are no command, one for each place of the decoder that rejects. -/
theorem test_decode_rejects :
    decode (0#8 ++ 6#8 ++ 0#64) = .rejected .reservedPort ∧
    decode (1#8 ++ 0#8 ++ 0#64) = .rejected .reservedUnit ∧
    decode (0#8 ++ 0#8 ++ 0x200000000#64) = .rejected .reservedBits ∧
    decode (2#8 ++ 1#8 ++ 0#64) = .rejected .reservedUnit ∧
    decode (1#8 ++ 1#8 ++ 0x200000000#64) = .rejected .reservedBits ∧
    decode (1#8 ++ 2#8 ++ 0#64) = .rejected .reservedUnit ∧
    decode (0#8 ++ 2#8 ++ 1#64) = .rejected .reservedBits ∧
    decode (2#8 ++ 3#8 ++ 0#64) = .rejected .reservedUnit ∧
    decode (1#8 ++ 3#8 ++ 1#64) = .rejected .reservedBits ∧
    decode (3#8 ++ 4#8 ++ 0#64) = .rejected .reservedUnit ∧
    decode (3#8 ++ 5#8 ++ 0#64) = .rejected .reservedUnit ∧
    decode (0#8 ++ 5#8 ++ 256#64) = .rejected .reservedBits := by decide

/-- A 33-bit event word of the table, in five bytes, is the `EVENT` command, and `step` runs it from
reset: V22 row 1. -/
theorem test_table_word :
    decodeTableWord 40 0x100000258 = some (.event true 600#32) ∧
    out5 (step (State.reset.withFetchWord 40 0x100000258)) =
      some (f5 false false 0#8 0#64 .bitstreamOn 1#8, 0#64) := by decide

/-- The words of `CLEAR` and `VALIDATE` run from reset too, as the dispatcher's. -/
theorem test_table_word_dispatcher :
    (tableCommand 80 0x00030000000000000000).issuer = .dispatcher ∧
    (after (step (State.reset.withFetchWord 80 0x00030000000000000000))).isSome = true ∧
    outV (step (State.reset.withFetchWord 80 0x0204000000C0A15B25E1)) =
      some [(.outdoor, .accept)] := by decide

/-- The table of 49_arithmetic.md R387: what the host issues, and what only the dispatcher does. -/
theorem test_issuers :
    decodeFor .host (encode (.event true 600#32)) = .ok (.event true 600#32) ∧
    decodeFor .host (encode .start) = .ok .start ∧
    decodeFor .host (encode (.createPayload .fridge 3#8)) = .ok (.createPayload .fridge 3#8) ∧
    decodeFor .host (encode (.clear .m523)) = .rejected .wrongIssuer ∧
    decodeFor .host (encode (.validate .outdoor 1#64)) = .rejected .wrongIssuer ∧
    decodeFor .host (encode (.m523Bit0On 400#32)) = .rejected .wrongIssuer ∧
    decodeFor .dispatcher (encode (.clear .m609)) = .ok (.clear .m609) ∧
    decodeFor .dispatcher (encode (.createPayload .fridge 1#8)) = .ok (.createPayload .fridge 1#8) ∧
    decodeFor .dispatcher (encode .start) = .rejected .wrongIssuer := by decide

/-! ### The rows of model 00523 (V22) -/

/-- V22 row 18, and the count going back to 0 after a `BIT_0_OFF` (R178). -/
theorem test_523_bit0Off :
    out5 (exec (.m523Bit0Off 200#32) (with5 (f5 true true 5#8 0xC00000000000#64 .bit0On 0#8))) =
      some (f5 true true 5#8 0xC00000000000#64 .bit0Off 0#8, 0#64) ∧
    out5 (exec (.m523Bit0Off 200#32) (with5 (f5 true true 5#8 0xC00000000000#64 .bit0Off 2#8))) =
      some (f5 true true 5#8 0xC00000000000#64 .bit0Off 0#8, 0#64) := by decide
/-- V22 row 19. -/
theorem test_523_bit1Off :
    out5 (exec (.m523Bit1Off 400#32) (with5 (f5 true true 5#8 0xC00000000000#64 .bit0Off 2#8))) =
      some (f5 true true 5#8 0xC00000000000#64 .bit1Off 0#8, 0#64) := by decide
/-- R176: only `last_class` with no chunk open. -/
theorem test_523_bitstreamOff :
    out5 (exec (.m523BitstreamOff 600#32) (with5 (f5 false false 0#8 0#64 .bit0Off 2#8))) =
      some (f5 false false 0#8 0#64 .bitstreamOff 2#8, 0#64) := by decide
/-- V22 rows 8 and 9. -/
theorem test_523_bit1On_bit :
    out5 (exec (.m523Bit1On 200#32) (with5 (f5 true true 5#8 0xC00000000000#64 .bit1Off 0#8))) =
      some (f5 true true 6#8 0xC40000000000#64 .bit1On 0#8, 0#64) ∧
    out5 (exec (.m523Bit1On 200#32) (with5 (f5 true true 5#8 0xC00000000000#64 .bit0Off 0#8))) =
      some (f5 true true 5#8 0xC00000000000#64 .bit1On 0#8, 0#64) := by decide
/-- V22 row 12. -/
theorem test_523_bit1On_emits :
    out5 (exec (.m523Bit1On 200#32) (with5 (f5 true true 47#8 0xC049008B3CD0#64 .bit1Off 0#8))) =
      some (f5 true false 0#8 0#64 .bit1On 0#8, 0xC049008B3CD1#64) := by decide
/-- V22 rows 7, 10 and 13. -/
theorem test_523_bit0On_bit :
    out5 (exec (.m523Bit0On 400#32) (with5 (f5 true true 5#8 0xC00000000000#64 .bit0Off 0#8))) =
      some (f5 true true 6#8 0xC00000000000#64 .bit0On 0#8, 0#64) ∧
    out5 (exec (.m523Bit0On 400#32) (with5 (f5 true true 5#8 0xC00000000000#64 .bit1Off 0#8))) =
      some (f5 true true 5#8 0xC00000000000#64 .bit0On 0#8, 0#64) ∧
    out5 (exec (.m523Bit0On 400#32) (with5 (f5 true false 0#8 0#64 .bit0Off 0#8))) =
      some (f5 true false 1#8 0#64 .bit0On 0#8, 0#64) := by decide
/-- V22 rows 11 and 17. -/
theorem test_523_bit0On_emits :
    out5 (exec (.m523Bit0On 400#32) (with5 (f5 true true 47#8 0xC049008B3CD0#64 .bit0Off 0#8))) =
      some (f5 true false 0#8 0#64 .bit0On 0#8, 0xC049008B3CD0#64) ∧
    out5 (exec (.m523Bit0On 400#32) (with5 (f5 false false 0#8 0#64 .bit0Off 0#8))) =
      some (f5 false false 0#8 0#64 .bit0On 0#8, 0#64) := by decide
/-- V22 rows 1 to 3. -/
theorem test_523_bitstreamOn_opens :
    out5 (exec (.m523BitstreamOn 600#32) (with5 (f5 false false 0#8 0#64 .inv 0#8))) =
      some (f5 false false 0#8 0#64 .bitstreamOn 1#8, 0#64) ∧
    out5 (exec (.m523BitstreamOn 600#32) (with5 (f5 false false 0#8 0#64 .bitstreamOff 3#8))) =
      some (f5 true true 0#8 0#64 .bitstreamOn 0#8, 0#64) ∧
    out5 (exec (.m523BitstreamOn 600#32) (with5 (f5 false false 0#8 0#64 .inv 3#8))) =
      some (f5 true true 0#8 0#64 .bitstreamOn 0#8, 0#64) := by decide
/-- V22 rows 4 to 6. -/
theorem test_523_bitstreamOn_in_chunk :
    out5 (exec (.m523BitstreamOn 600#32)
        (with5 (f5 true true 5#8 0xC00000000000#64 .bitstreamOff 3#8))) =
      some (f5 true true 5#8 0xC00000000000#64 .bitstreamOn 0#8, 0#64) ∧
    out5 (exec (.m523BitstreamOn 600#32)
        (with5 (f5 true true 5#8 0xC00000000000#64 .bit0Off 2#8))) =
      some (f5 true true 5#8 0xC00000000000#64 .bitstreamOn 0#8, 0#64) ∧
    out5 (exec (.m523BitstreamOn 600#32)
        (with5 (f5 true true 5#8 0xC00000000000#64 .bit1Off 2#8))) =
      some (f5 true true 5#8 0xC00000000000#64 .bitstreamOn 2#8, 0#64) := by decide
/-- V22 rows 14, 15 and 16. -/
theorem test_523_chunkEnd :
    out5 (exec (.m523ChunkEnd 30000#32)
        (with5 (f5 true true 5#8 0xC00000000000#64 .bit0Off 0#8))) =
      some (f5 false false 0#8 0#64 .chunkEnd 0#8, 0#64) ∧
    out5 (exec (.m523ChunkEnd 30000#32)
        (with5 (f5 true true 5#8 0xC00000000000#64 .bit1Off 0#8))) =
      some (f5 true true 5#8 0xC00000000000#64 .chunkEnd 0#8, 0#64) ∧
    out5 (exec (.m523ChunkEnd 30000#32) (with5 (f5 false false 0#8 0#64 .bit0Off 2#8))) =
      some (f5 false false 0#8 0#64 .chunkEnd 2#8, 0#64) := by decide
/-- V22 rows 20 and 21. -/
theorem test_523_inv :
    out5 (exec (.m523Inv true 5000#32) (with5 (f5 true true 5#8 0xC00000000000#64 .bit0Off 2#8))) =
      some (f5 true true 5#8 0xC00000000000#64 .inv 0#8, 0#64) ∧
    out5 (exec (.m523Inv true 5000#32) (with5 (f5 true true 5#8 0xC00000000000#64 .bit1Off 2#8))) =
      some (f5 true true 5#8 0xC00000000000#64 .inv 2#8, 0#64) := by decide

/-! ### The rows of model 00609 (V23) -/

/-- V23 row 1. -/
theorem test_609_off :
    out6 (exec (.m609Off 800#32) (with6 (f6 false false 0#8 0#64 .inv))) =
      some (f6 false false 0#8 0#64 .off, 0#64) := by decide
/-- V23 rows 16 and 17. -/
theorem test_609_chunkStart :
    out6 (exec (.m609ChunkStart 200#32) (with6 (f6 true true 10#8 0xC080000000#64 .off))) =
      some (f6 true true 10#8 0xC080000000#64 .chunkStart, 0#64) ∧
    out6 (exec (.m609ChunkStart 200#32) (with6 (f6 false false 0#8 0#64 .off))) =
      some (f6 false false 0#8 0#64 .chunkStart, 0#64) := by decide
/-- V23 rows 4, 7 and 9. -/
theorem test_609_bit0 :
    out6 (exec (.m609Bit0 800#32) (with6 (f6 true true 10#8 0xC080000000#64 .off))) =
      some (f6 true true 11#8 0xC080000000#64 .bit0, 0#64) ∧
    out6 (exec (.m609Bit0 800#32) (with6 (f6 true true 39#8 0xC0A15B25E0#64 .off))) =
      some (f6 true false 0#8 0#64 .bit0, 0xC0A15B25E0#64) ∧
    out6 (exec (.m609Bit0 800#32) (with6 (f6 true false 0#8 0#64 .off))) =
      some (f6 true false 0#8 0#64 .bit0, 0#64) := by decide
/-- V23 rows 5, 6 and 8. -/
theorem test_609_bit1 :
    out6 (exec (.m609Bit1 1800#32) (with6 (f6 true true 10#8 0xC080000000#64 .off))) =
      some (f6 true true 11#8 0xC0A0000000#64 .bit1, 0#64) ∧
    out6 (exec (.m609Bit1 1800#32) (with6 (f6 true true 10#8 0xC080000000#64 .bit0))) =
      some (f6 true true 10#8 0xC080000000#64 .bit1, 0#64) ∧
    out6 (exec (.m609Bit1 1800#32) (with6 (f6 true true 39#8 0xC0A15B25E0#64 .off))) =
      some (f6 true false 0#8 0#64 .bit1, 0xC0A15B25E1#64) := by decide
/-- V23 rows 2 and 3. -/
theorem test_609_bitstreamStart_closed :
    out6 (exec (.m609BitstreamStart 8800#32) (with6 (f6 false false 0#8 0#64 .off))) =
      some (f6 true true 0#8 0#64 .bitstreamStart, 0#64) ∧
    out6 (exec (.m609BitstreamStart 8800#32) (with6 (f6 false false 0#8 0#64 .inv))) =
      some (f6 false false 0#8 0#64 .bitstreamStart, 0#64) := by decide
/-- V23 rows 10 and 11. -/
theorem test_609_bitstreamStart_open :
    out6 (exec (.m609BitstreamStart 8800#32) (with6 (f6 true false 0#8 0#64 .off))) =
      some (f6 true true 0#8 0#64 .bitstreamStart, 0#64) ∧
    out6 (exec (.m609BitstreamStart 8800#32) (with6 (f6 true true 10#8 0xC080000000#64 .off))) =
      some (f6 true true 10#8 0xC080000000#64 .bitstreamStart, 0#64) := by decide
/-- V23 rows 12 and 13. -/
theorem test_609_bitstreamEnd :
    out6 (exec (.m609BitstreamEnd 15000#32) (with6 (f6 true true 10#8 0xC080000000#64 .off))) =
      some (f6 true false 0#8 0#64 .bitstreamEnd, 0#64) ∧
    out6 (exec (.m609BitstreamEnd 15000#32) (with6 (f6 true false 0#8 0#64 .off))) =
      some (f6 true false 0#8 0#64 .bitstreamEnd, 0#64) := by decide
/-- V23 rows 14 and 15. -/
theorem test_609_chunkEnd :
    out6 (exec (.m609ChunkEnd 30000#32) (with6 (f6 true true 10#8 0xC080000000#64 .off))) =
      some (f6 false false 0#8 0#64 .chunkEnd, 0#64) ∧
    out6 (exec (.m609ChunkEnd 30000#32) (with6 (f6 false false 0#8 0#64 .off))) =
      some (f6 false false 0#8 0#64 .chunkEnd, 0#64) := by decide
/-- V23 rows 18 and 19. -/
theorem test_609_inv :
    out6 (exec (.m609Inv true 5000#32) (with6 (f6 true true 10#8 0xC080000000#64 .off))) =
      some (f6 true true 10#8 0xC080000000#64 .inv, 0#64) ∧
    out6 (exec (.m609Inv false 1200#32) (with6 (f6 true true 10#8 0xC080000000#64 .off))) =
      some (f6 true true 10#8 0xC080000000#64 .inv, 0#64) := by decide

/-! ### The commands (V24 to V27, P1, P5) -/

/-- V24 rows 2, 13 and 21: the lowest temperature, the battery beside set unused bits, FRIDGE. -/
theorem test_validate_523 :
    outR .freezer (exec (.validate .freezer 0xC0490088B849#64) State.reset) =
      some { State.reset.freezer with battery := 0#8, tempNum := BitVec.ofInt 16 (-720) } ∧
    outR .freezer (exec (.validate .freezer 0xC049FF8B3CCF#64) State.reset) =
      some { State.reset.freezer with battery := 3#8, tempNum := BitVec.ofInt 16 (-332) } ∧
    outR .fridge (exec (.validate .fridge 0xC07C008B3C03#64) State.reset) =
      some { State.reset.fridge with battery := 0#8, tempNum := BitVec.ofInt 16 (-332) } := by decide
/-- V25 rows 2, 12 and 4. -/
theorem test_validate_609 :
    outR .outdoor (exec (.validate .outdoor 0xC0A15B25E1#64) State.reset) =
      some { State.reset.outdoor with
        signature := 0xC0#16, battery := 2#8, tempNum := 694#16, humidity := 37#8 } ∧
    outR .outdoor (exec (.validate .outdoor 0xC02E703290#64) State.reset) =
      some { State.reset.outdoor with
        signature := 0xC0#16, battery := 0#8, tempNum := BitVec.ofInt 16 (-800), humidity := 50#8 } ∧
    outV (exec (.validate .outdoor 0xC1A15B25E2#64) (withSig 0xC0#16)) =
      some [(.outdoor, .reject .signature)] := by decide
/-- V26 row 9, byte for byte. -/
theorem test_createPayload_523 :
    outP (exec (.createPayload .freezer 1#8)
      { State.reset with freezer := { State.reset.freezer with tempNum := BitVec.ofInt 16 (-332) } }) =
    some [0x62#8, 0x31#8, 0x07#8, 0x38#8, 0x38#8, 0x06#8, 0xDA#8, 0x25#8, 0x01#8, 0x00#8, 0x47#8,
      0xFF#8, 0x00#8, 0x00#8] := by decide
/-- V26 row 18, byte for byte. -/
theorem test_createPayload_609 :
    outP (exec (.createPayload .outdoor 1#8)
      { State.reset with outdoor := { State.reset.outdoor with
          tempNum := BitVec.ofInt 16 (-126), humidity := 69#8 } }) =
    some [0x62#8, 0x31#8, 0x07#8, 0x38#8, 0xB9#8, 0x19#8, 0x35#8, 0x21#8, 0x01#8, 0x00#8, 0xC1#8,
      0xFF#8, 0xB2#8, 0x02#8] := by decide

/-- The state of P1 before its last event, with a 00609 block one bit short too (V23 row 7). -/
def busy : State :=
  { State.reset with
    f523 := f5 true true 47#8 0xC049008B3CD0#64 .bit0Off 0#8
    f609 := f6 true true 39#8 0xC0A15B25E0#64 .off }

/-- P1, the last event: FREEZER accepts, its record is latched, its Payload is out, and both
machines are cleared. As in P5 the 00609 candidate of the same event is not validated. -/
theorem test_event_accepts :
    (after (exec (.event true 400#32) busy)).map (fun t => (t.f523, t.f609)) =
      some (f5 true false 0#8 0#64 .inv 0#8, Framing609.reset) ∧
    outR .freezer (exec (.event true 400#32) busy) =
      some { State.reset.freezer with tempNum := BitVec.ofInt 16 (-332) } ∧
    outV (exec (.event true 400#32) busy) = some [(.freezer, .accept)] ∧
    outP (exec (.event true 400#32) busy) =
      some [0x62#8, 0x31#8, 0x07#8, 0x38#8, 0x38#8, 0x06#8, 0xDA#8, 0x25#8, 0x01#8, 0x00#8, 0x47#8,
        0xFF#8, 0x00#8, 0x00#8] := by decide
/-- V27: `clear()` keeps `chunk_open` of 00523 only. -/
theorem test_clear :
    out5 (exec (.clear .m523) (with5 (f5 true true 10#8 0xC04000000000#64 .inv 0#8))) =
      some (f5 true false 0#8 0#64 .inv 0#8, 0#64) ∧
    out6 (exec (.clear .m609) (with6 (f6 true true 3#8 0xC000000000#64 .bit0))) =
      some (f6 false false 0#8 0#64 .inv, 0#64) := by decide
/-- V27: `START` from a busy state. -/
theorem test_start : after (exec .start busy) = some State.reset := by decide

/-! ### Witnesses: states and operands that meet the hypotheses of each statement -/

/-- Every 1 bit of a 64-bit buffer at a position from `lo` to `hi - 1`, from a check of the 64
positions. -/
theorem bits_of_check (b : BitVec 64) (lo hi : Nat)
    (h : ∀ i < 64, b.getLsbD i = true → lo ≤ i ∧ i < hi) :
    ∀ i, b.getLsbD i = true → lo ≤ i ∧ i < hi := by
  intro i hb
  by_cases hi' : i < 64
  · exact h i hi' hb
  · rw [BitVec.getLsbD_of_ge _ _ (by omega)] at hb
    cases hb

/-- The busy state meets the invariant, at the largest sizes it allows. -/
theorem busy_inv : busy.Inv where
  f523 := ⟨by decide, bits_of_check _ _ _ (by decide), by decide, by decide⟩
  f609 := ⟨by decide, bits_of_check _ _ _ (by decide), by decide, by decide⟩
  freezer := ⟨rfl, rfl, rfl, by decide, by decide, rfl⟩
  fridge := ⟨rfl, rfl, rfl, by decide, by decide, rfl⟩
  outdoor := ⟨rfl, rfl, by decide, by decide, by decide, by decide⟩

/-- The busy state one step from FRIDGE accepting (V2, its last bit a 1). -/
def busyFridge : State :=
  { State.reset with f523 := f5 true true 47#8 0xC07C000F509A#64 .bit1Off 0#8 }

/-- The state one bit from OUTDOOR accepting (V23 row 8, V3). -/
def busyOutdoor : State := with6 (f6 true true 39#8 0xC0A15B25E0#64 .off)

theorem witness_StepRunsDecodedInstruction :
    ({ busy with input := [⟨.host, 0x100000190#80⟩, ⟨.host, 0#80⟩] }).input =
      [⟨.host, 0x100000190#80⟩, ⟨.host, 0#80⟩] ∧
    decode 0x100000190#80 = .ok (.event true 400#32) ∧
    Issuer.host ∈ (Instr.event true 400#32).issuers := by decide

theorem witness_StepIdlesOrRefusesByName :
    State.reset.input = [] ∧
    ({ busy with input := [⟨.host, 0x00060000000000000000#80⟩] }).input =
      [⟨.host, 0x00060000000000000000#80⟩] ∧
    decode 0x00060000000000000000#80 = .rejected .reservedPort ∧
    ({ busy with input := [⟨.host, 0x00030000000000000000#80⟩] }).input =
      [⟨.host, 0x00030000000000000000#80⟩] ∧
    decode 0x00030000000000000000#80 = .ok (.clear .m523) ∧
    Issuer.host ∉ (Instr.clear .m523).issuers := by decide

/-- One well-formed instruction of each row, at the low end of its window. -/
theorem witness_DecodeOfEncode :
    ([.m523Bit0Off 100#32, .m523Bit1Off 300#32, .m523BitstreamOff 500#32, .m523Bit1On 100#32,
      .m523Bit0On 300#32, .m523BitstreamOn 500#32, .m523ChunkEnd 20000#32, .m523Inv true 700#32,
      .m609Off 0#32, .m609ChunkStart 0#32, .m609Bit0 300#32, .m609Bit1 1200#32,
      .m609BitstreamStart 8700#32, .m609BitstreamEnd 10000#32, .m609ChunkEnd 20000#32,
      .m609Inv true 3000#32, .start, .event true 0#32, .clear .m609, .validate .outdoor 1#64,
      .createPayload .fridge 255#8] : List Instr).all Instr.wellFormed = true := by decide

theorem witness_EncodeOfDecode :
    decode 0x010100000001FFFFFFFF#80 = .ok (.m609Inv true 0xFFFFFFFF#32) := by decide

/-- A count at the top of its range, the fourth pulse in and out of a chunk, and the two clauses of
an uncounted pulse. -/
theorem witness_BitstreamOn523Result :
    (∃ s : State, s.f523.bitstreamOpenerCount.toNat = 254 ∧ s.f523.chunkOpen = false ∧
      ¬ s.f523.bitstreamOpenerCount.toNat + 1 = 4) ∧
    (∃ s : State, s.f523.bitstreamOpenerCount.toNat + 1 = 4 ∧ s.f523.chunkOpen = true ∧
      s.f523.lastClass = .bitstreamOff) ∧
    (∃ s : State, s.f523.bitstreamOpenerCount.toNat + 1 = 4 ∧ s.f523.chunkOpen = false) ∧
    (∃ s : State, s.f523.chunkOpen = true ∧ s.f523.lastClass = .bit0Off) ∧
    (∃ s : State, s.f523.chunkOpen = true ∧ s.f523.lastClass ≠ .bitstreamOff ∧
      s.f523.lastClass ≠ .bit0Off) :=
  ⟨⟨with5 (f5 false false 0#8 0#64 .inv 254#8), by decide⟩,
   ⟨with5 (f5 true true 0#8 0#64 .bitstreamOff 3#8), by decide⟩,
   ⟨with5 (f5 false false 0#8 0#64 .inv 3#8), by decide⟩,
   ⟨with5 (f5 true true 0#8 0#64 .bit0Off 2#8), by decide⟩,
   ⟨with5 (f5 true true 0#8 0#64 .bit1Off 2#8), by decide⟩⟩

/-- A bit taken at the first, the last but one and the last position, and the size that takes
none. -/
theorem witness_Bit0On523Result :
    ([0#8, 46#8].all fun n => decide (n.toNat < 48 ∧ n.toNat + 1 < 48)) = true ∧
    busy.f523.chunkOpen = true ∧ busy.f523.lastClass = .bit0Off ∧
    busy.f523.bitstreamSize.toNat + 1 = 48 ∧
    ¬ (with5 (f5 true true 48#8 0#64 .bit0Off 0#8)).f523.bitstreamSize.toNat < 48 := by decide

/-- The four clauses: sizes 46 and 47 after `BIT_1_OFF`, 48 after `BIT_0_OFF`, and 48 after
`BIT_1_OFF`. -/
theorem witness_Bit1On523Result :
    (∃ s : State, s.f523.chunkOpen = true ∧ s.f523.lastClass = .bit1Off ∧
      s.f523.bitstreamSize.toNat = 46) ∧
    (∃ s : State, s.f523.chunkOpen = true ∧ s.f523.lastClass = .bit1Off ∧
      s.f523.bitstreamSize.toNat = 47) ∧
    (∃ s : State, s.f523.chunkOpen = true ∧ s.f523.lastClass = .bit0Off ∧
      s.f523.bitstreamSize.toNat = 48) ∧
    (∃ s : State, s.f523.chunkOpen = true ∧ s.f523.lastClass = .bit1Off ∧
      s.f523.bitstreamSize.toNat = 48) :=
  ⟨⟨with5 (f5 true true 46#8 0#64 .bit1Off 0#8), by decide⟩,
   ⟨with5 (f5 true true 47#8 0#64 .bit1Off 0#8), by decide⟩,
   ⟨with5 (f5 true true 48#8 0#64 .bit0Off 0#8), by decide⟩,
   ⟨with5 (f5 true true 48#8 0#64 .bit1Off 0#8), by decide⟩⟩

theorem witness_ChunkEnd523Result :
    (busy.f523.chunkOpen = true ∧ busy.f523.lastClass = .bit0Off) ∧
    ¬ (State.reset.f523.chunkOpen = true ∧ State.reset.f523.lastClass = .bit0Off) := by decide

/-- Sizes 38, 39 and 40 with everything open. -/
theorem witness_BitRows609Result :
    takesBit609 (f6 true true 38#8 0#64 .off) = true ∧ takesBit609 busy.f609 = true ∧
    busy.f609.bitstreamSize.toNat + 1 = 40 ∧
    takesBit609 (f6 true true 40#8 0#64 .off) = false := by decide

/-- The three clauses: no chunk, a chunk without a bitstream (empty and full), and no `OFF`. -/
theorem witness_BitstreamStart609Result :
    (∃ f : Framing609, f.lastClass = .off ∧ f.chunkOpen = false) ∧
    (∃ f : Framing609, f.lastClass = .off ∧ f.chunkOpen = true ∧ f.bitstreamOpen = false ∧
      f.bitstreamSize.toNat = 40) ∧
    (∃ f : Framing609, f.lastClass ≠ .off) ∧
    (∃ f : Framing609, f.lastClass = .off ∧ f.chunkOpen = true ∧ f.bitstreamOpen = true) :=
  ⟨⟨f6 false false 0#8 0#64 .off, by decide⟩, ⟨f6 true false 40#8 0#64 .off, by decide⟩,
   ⟨f6 false false 0#8 0#64 .inv, by decide⟩, ⟨f6 true true 0#8 0#64 .off, by decide⟩⟩

/-- Both rows on a full and on a short buffer, and the state that neither acts on. -/
theorem witness_EndRows609Result :
    (∃ f : Framing609, f.lastClass = .off ∧ f.chunkOpen = true ∧ f.bitstreamOpen = true ∧
      f.bitstreamSize.toNat = 40) ∧
    (busy.f609.lastClass = .off ∧ busy.f609.chunkOpen = true ∧ busy.f609.bitstreamOpen = true) ∧
    ¬ (State.reset.f609.lastClass = .off ∧ State.reset.f609.chunkOpen = true) :=
  ⟨⟨f6 true true 40#8 0#64 .off, by decide⟩, by decide, by decide⟩

/-- Two states with the same 00523 record and different 00609 ones, and the other way round. -/
theorem witness_FramingDependsOnItsOwnRecord :
    (∃ t t', busy.f523 = (with5 busy.f523).f523 ∧ busy.f609 ≠ (with5 busy.f523).f609 ∧
      exec (instr523 true 400#32) busy = .next t ∧
      exec (instr523 true 400#32) (with5 busy.f523) = .next t') ∧
    (∃ t t', busy.f609 = (with6 busy.f609).f609 ∧ busy.f523 ≠ (with6 busy.f609).f523 ∧
      exec (instr609 true 400#32) busy = .next t ∧
      exec (instr609 true 400#32) (with6 busy.f609) = .next t') :=
  ⟨⟨_, _, rfl, by decide, rfl, rfl⟩, ⟨_, _, rfl, by decide, rfl, rfl⟩⟩

theorem witness_UngatedLastClassesAreEquivalent :
    gates523 .inv = false ∧ gates523 .bit1On = false ∧ gates609 .inv = false ∧
    gates609 .chunkStart = false := by decide

/-- The busy state and each of the five rows, `BIT_1_ON` after `BIT_0_OFF`. -/
theorem witness_IfFullArmsAreDead :
    busy.Inv ∧ busy.f523.lastClass = .bit0Off ∧
    (∃ t, exec (.m523ChunkEnd 30000#32) busy = .next t) ∧
    (∃ t, exec (.m523Bit1On 200#32) busy = .next t) ∧
    (∃ t, exec (.m609BitstreamStart 8800#32) busy = .next t) ∧
    (∃ t, exec (.m609BitstreamEnd 15000#32) busy = .next t) ∧
    (∃ t, exec (.m609ChunkEnd 30000#32) busy = .next t) :=
  ⟨busy_inv, rfl, ⟨_, rfl⟩, ⟨_, rfl⟩, ⟨_, rfl⟩, ⟨_, rfl⟩, ⟨_, rfl⟩⟩

/-- An event on which both models emit, from a state that keeps the invariant. -/
theorem witness_CandidatesFitTheirLength :
    busy.Inv ∧ ∃ t, exec (.event true 400#32) busy = .next t ∧
      t.out.cand523 = 0xC049008B3CD0#64 ∧ t.out.cand609 = 0xC0A15B25E0#64 :=
  ⟨busy_inv, _, rfl, by decide, by decide⟩

theorem witness_OpenerCountPersistsWithoutChunk :
    (f5 false false 0#8 0#64 .bit0Off 3#8).chunkOpen = false ∧
    classify523 true 30000#32 ≠ .bitstreamOn := by decide

theorem witness_InvStreamsEmitNothing :
    (f5 false false 0#8 0#64 .bit0Off 3#8).chunkOpen = false ∧
    (∀ e ∈ [ev true 99, ev true 700], classify523 e.level e.duration = .inv) ∧
    (f6 false false 0#8 0#64 .off).chunkOpen = false ∧
    (∀ e ∈ [ev false 1200, ev true 3000], classify609 e.level e.duration = .inv) := by decide

theorem witness_Word523RoundTrips :
    let f := f5 true true 0#8 0#64 .bitstreamOn 0#8
    f.chunkOpen = true ∧ f.bitstreamSize = 0#8 ∧ f.bitstream = 0#64 := by decide

theorem witness_Word609RoundTrips :
    let f := f6 true true 0#8 0#64 .bitstreamStart
    f.chunkOpen = true ∧ f.bitstreamOpen = true ∧ f.bitstreamSize = 0#8 ∧ f.bitstream = 0#64 := by
  decide

/-- The longest candidate of the statement, and each result of a 00523 validator on a device of it:
V24 rows 1, 19, 18, 15, 16, 3 and 4. -/
theorem witness_Validate523Result :
    (0xFFFFFFFFFFFF#64).toNat < 2 ^ 48 ∧
    ([0#64, 0xC048008B3CCF#64, 0xC049008BBCD0#64, 0xC049008BBC50#64, 0xC049000B3C50#64,
      0xC0490088B748#64, 0xC0490017F313#64].map fun w =>
        outV (exec (.validate .freezer w) State.reset)) =
    [some [(.freezer, .reject .zero)], some [(.freezer, .reject .signature)],
     some [(.freezer, .reject .checksum)], some [(.freezer, .reject .parity)],
     some [(.freezer, .reject .parity)], some [(.freezer, .reject .range)],
     some [(.freezer, .accept)]] := by decide

/-- The longest candidate of the statement, and each result of the 00609 validator: V25 rows 1, 6, 10, 13, 22 and 23, and row 4 with a latched
signature. -/
theorem witness_Validate609Result :
    (0xFFFFFFFFFF#64).toNat < 2 ^ 40 ∧
    ([0#64, 0xC0915B25D1#64, 0xC0A15B25E0#64, 0xC02E6FB20F#64, 0xC0200000E0#64,
      0xC020006343#64].map fun w =>
        outV (exec (.validate .outdoor w) State.reset)) =
    [some [(.outdoor, .reject .zero)], some [(.outdoor, .reject .channel)],
     some [(.outdoor, .reject .checksum)], some [(.outdoor, .reject .range)],
     some [(.outdoor, .reject .range)], some [(.outdoor, .accept)]] ∧
    (runValidator .outdoor (withSig 0xC0#16).outdoor 0xC1A15B25E2#64).1 =
      .reject .signature := by decide

/-- A rejection by each of the three validators. -/
theorem witness_RejectionWritesNothing :
    (runValidator .freezer (busy.device .freezer) 0xC048008B3CCF#64).1 = .reject .signature ∧
    (runValidator .fridge (busy.device .fridge) 0#64).1 = .reject .zero ∧
    (runValidator .outdoor (busy.device .outdoor) 0xC0A15B25E0#64).1 = .reject .checksum := by
  decide

/-- Words that differ in their highest bit, and just above what a validator reads. -/
theorem witness_ValidatorsReadOnlyTheLowBits :
    (0xC049008B3CD0#64 ≠ 0x8001C049008B3CD0#64 ∧
      (0xC049008B3CD0#64).setWidth 48 = (0x8001C049008B3CD0#64).setWidth 48) ∧
    (0xC0A15B25E1#64 ≠ 0x800001C0A15B25E1#64 ∧
      (0xC0A15B25E1#64).setWidth 40 = (0x800001C0A15B25E1#64).setWidth 40) := by decide

/-- A state that keeps the invariant, and a word that one of the two devices accepts. -/
theorem witness_AtMostOneDevice523Accepts :
    busy.Inv ∧ (validate523 busy.freezer 0xC049008B3CD0#64).1 = .accept :=
  ⟨busy_inv, by decide⟩

theorem witness_LatchedSignatureStaysUntilStart :
    (withSig 0xC0#16).outdoor.signature ≠ 0#16 ∧
    Instr.validate .outdoor 0xC0A15B25E1#64 ≠ .start ∧
    ∃ t, exec (.validate .outdoor 0xC0A15B25E1#64) (withSig 0xC0#16) = .next t :=
  ⟨by decide, by decide, _, rfl⟩

/-- Every branch of the event step: FREEZER, FRIDGE, no 00609 candidate, OUTDOOR, and a rejection by
OUTDOOR after two by the 00523 devices. -/
theorem witness_EventStepsTheWholeBlock :
    (after (exec (.event true 400#32) busy)).map (fun t => t.out.accepted) =
      some (some .freezer) ∧
    (after (exec (.event true 200#32) busyFridge)).map (fun t => t.out.accepted) =
      some (some .fridge) ∧
    (after (exec (.event true 0#32) State.reset)).map (fun t => t.out.validations) = some [] ∧
    (after (exec (.event true 1800#32) busyOutdoor)).map (fun t => t.out.accepted) =
      some (some .outdoor) ∧
    (after (exec (.event true 400#32)
        { busy with f523 := f5 true true 47#8 0xC048008B3CD0#64 .bit0Off 0#8 })).map
        (fun t => t.out.validations) =
      some [(.freezer, .reject .signature), (.fridge, .reject .signature),
        (.outdoor, .reject .checksum)] := by decide

theorem witness_RecordsChangeOnlyOnTheirAcceptance :
    busy.Inv ∧ ∃ t, exec (.event true 400#32) busy = .next t ∧
      t.device .freezer ≠ busy.device .freezer :=
  ⟨busy_inv, _, rfl, by decide⟩

theorem witness_AcceptanceClearsBothMachines :
    ∃ t, exec (.event true 400#32) busy = .next t ∧ t.out.accepted.isSome = true :=
  ⟨_, rfl, by decide⟩

/-- With an acceptance and without one. -/
theorem witness_PayloadIsTheLatchedRecord :
    busy.Inv ∧
    (∃ t, exec (.event true 400#32) busy = .next t ∧ t.out.accepted = some .freezer) ∧
    (∃ t, exec (.event true 0#32) busy = .next t ∧ t.out.accepted = none) :=
  ⟨busy_inv, ⟨_, rfl, by decide⟩, ⟨_, rfl, by decide⟩⟩

theorem witness_FloorDivIsTheGreatestQuotient :
    (0 : Int) < 18 ∧ (-185 : Int) * 18 ≤ -3320 ∧ floorDiv (-3320) 18 = -185 := by decide

theorem witness_ClearIsIdempotent :
    (∃ t, exec (.clear .m523) busy = .next t) ∧ (∃ t, exec (.clear .m609) busy = .next t) :=
  ⟨⟨_, rfl⟩, ⟨_, rfl⟩⟩

/-- A step that runs a command and the idle one, from a state that keeps the invariant. -/
theorem witness_StepKeepsTheInvariant :
    busy.Inv ∧ (∃ t, step busy = .next t) ∧
    ({ busy with input := [⟨.host, 0x100000190#80⟩] } : State).Inv ∧
    (∃ t, step { busy with input := [⟨.host, 0x100000190#80⟩] } = .next t) :=
  ⟨busy_inv, ⟨_, rfl⟩,
   ⟨busy_inv.f523, busy_inv.f609, busy_inv.freezer, busy_inv.fridge, busy_inv.outdoor⟩, ⟨_, rfl⟩⟩

/-- Both clauses of the poll loop: an event that is accepted with one after it, and none. -/
theorem witness_AvailableStopsAtTheFirstAcceptance :
    (available [ev true 400, ev false 200] busy).2.2 = [ev false 200] ∧
    (deliver [ev true 400] busy).out.accepted = some .freezer ∧
    (deliver [ev true 0, ev false 200] busy).out.accepted = none := by decide

/-- A head of the stream for each of the four outcomes of a host's command, and of each of the three
commands. -/
theorem witness_HostDoesExactlyThreeThings :
    ([.event true 400#32, .start, .createPayload .outdoor 255#8] : List HostCommand).all
      (fun c => (after (step { busy with input := [c.command] })).isSome) = true ∧
    after (step { busy with input := [⟨.host, encode (.clear .m523)⟩] }) = none := by decide

theorem witness_OnlyTheDispatcherClearsAndValidates :
    decode (encode (.clear .m609)) = .ok (.clear .m609) ∧
    decode (encode (.validate .freezer 0#64)) = .ok (.validate .freezer 0#64) ∧
    (after (step { busy with input := [⟨.dispatcher, encode (.clear .m609)⟩] })).isSome = true ∧
    after (step { busy with input := [⟨.host, encode (.validate .freezer 0#64)⟩] }) = none := by
  decide

/-- With a command of each kind pending, and with none. -/
theorem witness_HostDrivenMachinesNeverStop :
    (hostIssue (.event true 400#32) (hostIssue .start busy)).HostDriven ∧ busy.HostDriven :=
  ⟨⟨[.start, .event true 400#32], rfl⟩, ⟨[], rfl⟩⟩

/-- The busy state with a latched OUTDOOR signature. -/
def latched : State := { busy with outdoor := (withSig 0xC0#16).outdoor }

/-- An event that FREEZER accepts, and a reset that drops the latched signature. -/
theorem witness_HostWritesNoDeviceRecord :
    (∃ t, ({ busy with input := [⟨.host, 0x100000190#80⟩] } : State).Inv ∧
      step { busy with input := [⟨.host, 0x100000190#80⟩] } = .next t ∧
      t.device .freezer ≠ busy.device .freezer ∧ t.out.accepted = some .freezer) ∧
    (∃ t, ({ latched with input := [⟨.host, encode .start⟩] } : State).Inv ∧
      step { latched with input := [⟨.host, encode .start⟩] } = .next t ∧
      t.device .outdoor ≠ latched.device .outdoor) :=
  ⟨⟨_, ⟨busy_inv.f523, busy_inv.f609, busy_inv.freezer, busy_inv.fridge, busy_inv.outdoor⟩, rfl,
    by decide, by decide⟩,
   ⟨_, ⟨busy_inv.f523, busy_inv.f609, busy_inv.freezer, busy_inv.fridge,
    ⟨rfl, rfl, by decide, by decide, by decide, by decide⟩⟩, rfl, by decide⟩⟩

end Sys2Proof.Tests
end

section
/-!
The 00523 classifier against its table (40_classifier_523.md R120). `Window523 c` is the row of the
table for class `c`. Each event lies in the window of the class that it is given
(`window523_classify523`), and no event lies in the window of another class
(`classify523_eq_of_window523`), so the class and its window say the same of an event.
-/

namespace Sys2Proof.Machine

/-- The row of class `c` in the table of R120: the level and the durations, in microseconds, of the
class, each interval closed at the low end and open at the high end; for `INV` what the other seven
rows leave. -/
def Window523 : Class523 → Level → Nat → Prop
  | .bit0Off, l, n => l = false ∧ 100 ≤ n ∧ n < 300
  | .bit1Off, l, n => l = false ∧ 300 ≤ n ∧ n < 500
  | .bitstreamOff, l, n => l = false ∧ 500 ≤ n ∧ n < 700
  | .bit1On, l, n => l = true ∧ 100 ≤ n ∧ n < 300
  | .bit0On, l, n => l = true ∧ 300 ≤ n ∧ n < 500
  | .bitstreamOn, l, n => l = true ∧ 500 ≤ n ∧ n < 700
  | .chunkEnd, l, n => l = true ∧ 20000 ≤ n ∧ n < 60000
  | .inv, l, n => n < 100 ∨ (700 ≤ n ∧ (l = false ∨ n < 20000 ∨ 60000 ≤ n))

theorem classify523_off (d : Duration) :
    classify523 false d =
      if 100 ≤ d.toNat ∧ d.toNat < 300 then .bit0Off
      else if 300 ≤ d.toNat ∧ d.toNat < 500 then .bit1Off
      else if 500 ≤ d.toNat ∧ d.toNat < 700 then .bitstreamOff
      else .inv := by
  simp [classify523]

theorem classify523_on (d : Duration) :
    classify523 true d =
      if 100 ≤ d.toNat ∧ d.toNat < 300 then .bit1On
      else if 300 ≤ d.toNat ∧ d.toNat < 500 then .bit0On
      else if 500 ≤ d.toNat ∧ d.toNat < 700 then .bitstreamOn
      else if 20000 ≤ d.toNat ∧ d.toNat < 60000 then .chunkEnd
      else .inv := by
  simp [classify523]

/-- The windows cover every event: the test that picks a class is the window of that class, and where
every test of the level fails the event lies in the window of `INV`. -/
theorem window523_classify523 (l : Level) (d : Duration) :
    Window523 (classify523 l d) l d.toNat := by
  cases l
  case false =>
    rw [classify523_off]
    split_ifs <;> simp only [Window523, true_and, true_or, and_true] <;> omega
  case true =>
    rw [classify523_on]
    split_ifs <;> simp only [Window523, true_and, reduceCtorEq, false_or] <;> omega

/-- The windows are disjoint: in the window of `c` the tests of the other classes of its level fail. -/
theorem classify523_eq_of_window523 {c : Class523} {l : Level} {d : Duration}
    (h : Window523 c l d.toNat) : classify523 l d = c := by
  cases c
  case inv =>
    cases l
    case false =>
      simp only [Window523, true_or, and_true] at h
      simp (disch := omega) only [classify523_off, if_neg]
    case true =>
      simp only [Window523, reduceCtorEq, false_or] at h
      simp (disch := omega) only [classify523_on, if_neg]
  case bit0Off | bit1Off | bitstreamOff =>
    obtain ⟨rfl, hlo, hhi⟩ := h
    simp (disch := omega) only [classify523_off, if_pos, if_neg]
  case bit1On | bit0On | bitstreamOn | chunkEnd =>
    obtain ⟨rfl, hlo, hhi⟩ := h
    simp (disch := omega) only [classify523_on, if_pos, if_neg]

theorem classify523_eq_iff (c : Class523) (l : Level) (d : Duration) :
    classify523 l d = c ↔ Window523 c l d.toNat :=
  ⟨fun h => h ▸ window523_classify523 l d, classify523_eq_of_window523⟩

/-- Settles O6: each clause is one row of the table. -/
theorem classify523IsItsWindowTable : Obligations.Classify523IsItsWindowTable := fun l d =>
  ⟨classify523_eq_iff .bit0Off l d, classify523_eq_iff .bit1Off l d,
    classify523_eq_iff .bitstreamOff l d, classify523_eq_iff .bit1On l d,
    classify523_eq_iff .bit0On l d, classify523_eq_iff .bitstreamOn l d,
    classify523_eq_iff .chunkEnd l d, classify523_eq_iff .inv l d⟩

end Sys2Proof.Machine
end

section
/-!
The 00609 classifier against its table (41_classifier_609.md R140), by the same two halves as for
00523: each event lies in the window of the class that it is given (`window609_classify609`), and no
event lies in the window of another class (`classify609_eq_of_window609`). `OFF` and `CHUNK_START`
have no lower bound here, so it is the level alone that parts a short `OFF` from a short
`CHUNK_START`.
-/

namespace Sys2Proof.Machine

/-- The row of class `c` in the table of R140: the level and the durations, in microseconds, of the
class, each interval closed at the low end and open at the high end; for `INV` what the other seven
rows leave (30_encoding.md R83). -/
def Window609 : Class609 → Level → Nat → Prop
  | .off, l, n => l = false ∧ n < 1200
  | .chunkStart, l, n => l = true ∧ n < 300
  | .bit0, l, n => l = true ∧ 300 ≤ n ∧ n < 1200
  | .bit1, l, n => l = true ∧ 1200 ≤ n ∧ n < 3000
  | .bitstreamStart, l, n => l = true ∧ 8700 ≤ n ∧ n < 9000
  | .bitstreamEnd, l, n => l = true ∧ 10000 ≤ n ∧ n < 20000
  | .chunkEnd, l, n => l = true ∧ 20000 ≤ n ∧ n < 40000
  | .inv, l, n =>
      (l = false ∧ 1200 ≤ n) ∨
      (l = true ∧ ((3000 ≤ n ∧ n < 8700) ∨ (9000 ≤ n ∧ n < 10000) ∨ 40000 ≤ n))

theorem classify609_off (d : Duration) :
    classify609 false d = if d.toNat < 1200 then .off else .inv := by
  simp [classify609]

theorem classify609_on (d : Duration) :
    classify609 true d =
      if d.toNat < 300 then .chunkStart
      else if 300 ≤ d.toNat ∧ d.toNat < 1200 then .bit0
      else if 1200 ≤ d.toNat ∧ d.toNat < 3000 then .bit1
      else if 8700 ≤ d.toNat ∧ d.toNat < 9000 then .bitstreamStart
      else if 10000 ≤ d.toNat ∧ d.toNat < 20000 then .bitstreamEnd
      else if 20000 ≤ d.toNat ∧ d.toNat < 40000 then .chunkEnd
      else .inv := by
  simp [classify609]

/-- The windows cover every event: the test that picks a class is the window of that class, and where
every test of the level fails the event lies in the window of `INV`. -/
theorem window609_classify609 (l : Level) (d : Duration) :
    Window609 (classify609 l d) l d.toNat := by
  cases l
  case false =>
    rw [classify609_off]
    split_ifs <;> simp only [Window609, true_and, reduceCtorEq, false_and, or_false] <;> omega
  case true =>
    rw [classify609_on]
    split_ifs <;> simp only [Window609, true_and, reduceCtorEq, false_and, false_or] <;> omega

/-- The windows are disjoint: in the window of `c` the tests of the other classes of its level fail. -/
theorem classify609_eq_of_window609 {c : Class609} {l : Level} {d : Duration}
    (h : Window609 c l d.toNat) : classify609 l d = c := by
  cases c
  case inv =>
    obtain ⟨rfl, hlo⟩ | ⟨rfl, hgap⟩ := h
    · simp (disch := omega) only [classify609_off, if_neg]
    · simp (disch := omega) only [classify609_on, if_neg]
  case off =>
    obtain ⟨rfl, hhi⟩ := h
    simp only [classify609_off, if_pos hhi]
  case chunkStart =>
    obtain ⟨rfl, hhi⟩ := h
    simp only [classify609_on, if_pos hhi]
  case bit0 | bit1 | bitstreamStart | bitstreamEnd | chunkEnd =>
    obtain ⟨rfl, hlo, hhi⟩ := h
    simp (disch := omega) only [classify609_on, if_pos, if_neg]

theorem classify609_eq_iff (c : Class609) (l : Level) (d : Duration) :
    classify609 l d = c ↔ Window609 c l d.toNat :=
  ⟨fun h => h ▸ window609_classify609 l d, classify609_eq_of_window609⟩

/-- Settles O7: each clause is one row of the table. -/
theorem classify609IsItsWindowTable : Obligations.Classify609IsItsWindowTable := fun l d =>
  ⟨classify609_eq_iff .off l d, classify609_eq_iff .chunkStart l d, classify609_eq_iff .bit0 l d,
    classify609_eq_iff .bit1 l d, classify609_eq_iff .bitstreamStart l d,
    classify609_eq_iff .bitstreamEnd l d, classify609_eq_iff .chunkEnd l d,
    classify609_eq_iff .inv l d⟩

end Sys2Proof.Machine
end

section
/-!
The rows of model 00523 but `CHUNK_END` (42_framing_523.md R170 to R172, R174 to R178). First what
each class does to a framing record, one equation per clause of its rule; the obligations then say
the same of the whole state, where `framed523` adds the observation points and nothing else.
-/

namespace Sys2Proof.Machine

/-! ### Each row is one `parse_rf` call of its class -/

theorem exec_m523Bit0Off (d : Duration) (s : State) :
    exec (.m523Bit0Off d) s = .next (framed523 s .bit0Off (onBit0Off523 s.f523)) := rfl
theorem exec_m523Bit1Off (d : Duration) (s : State) :
    exec (.m523Bit1Off d) s = .next (framed523 s .bit1Off (onBit1Off523 s.f523)) := rfl
theorem exec_m523BitstreamOff (d : Duration) (s : State) :
    exec (.m523BitstreamOff d) s =
      .next (framed523 s .bitstreamOff (onBitstreamOff523 s.f523)) := rfl
theorem exec_m523Inv (l : Level) (d : Duration) (s : State) :
    exec (.m523Inv l d) s = .next (framed523 s .inv (onInv523 s.f523)) := rfl
theorem exec_m523BitstreamOn (d : Duration) (s : State) :
    exec (.m523BitstreamOn d) s =
      .next (framed523 s .bitstreamOn (onBitstreamOn523 s.f523)) := rfl
theorem exec_m523Bit0On (d : Duration) (s : State) :
    exec (.m523Bit0On d) s = .next (framed523 s .bit0On (onBit0On523 s.f523)) := rfl
theorem exec_m523Bit1On (d : Duration) (s : State) :
    exec (.m523Bit1On d) s = .next (framed523 s .bit1On (onBit1On523 s.f523)) := rfl

/-! ### `BIT_0_OFF`, `BIT_1_OFF`, `BITSTREAM_OFF` and `INV` (R174 to R178) -/

/-- The "any other class" arm can write the opener count only. -/
theorem otherClass523_eq (f : Framing523) :
    otherClass523 f = { f with
      bitstreamOpenerCount := if f.chunkOpen = true ∧ f.lastClass = .bit0Off then 0#8
        else f.bitstreamOpenerCount } := by
  unfold otherClass523
  split_ifs <;> rfl

/-- Settles O10: the four classes are the same arm (R178) with their own `last_class`. -/
theorem offAndInvRows523Result : Obligations.OffAndInvRows523Result := by
  intro s l d count
  refine ⟨?bit0Off, ?bit1Off, ?bitstreamOff, ?inv⟩
  case bit0Off => rw [exec_m523Bit0Off, onBit0Off523, otherClass523_eq]; rfl
  case bit1Off => rw [exec_m523Bit1Off, onBit1Off523, otherClass523_eq]; rfl
  case bitstreamOff => rw [exec_m523BitstreamOff, onBitstreamOff523, otherClass523_eq]; rfl
  case inv => rw [exec_m523Inv, onInv523, otherClass523_eq]; rfl

/-! ### `BITSTREAM_ON` (R170) -/

/-- After a `BITSTREAM_OFF`, or with no chunk open, the pulse is counted towards the preamble. -/
theorem onBitstreamOn523_counted (f : Framing523)
    (h : f.lastClass = .bitstreamOff ∨ f.chunkOpen = false) :
    onBitstreamOn523 f = withLast523 (countOpener523 f, 0#64) .bitstreamOn := by
  rw [onBitstreamOn523, if_pos h]

/-- Any other pulse takes the "any other class" arm (R178). -/
theorem onBitstreamOn523_uncounted (f : Framing523)
    (h : ¬ (f.lastClass = .bitstreamOff ∨ f.chunkOpen = false)) :
    onBitstreamOn523 f = withLast523 (otherClass523 f, 0#64) .bitstreamOn := by
  rw [onBitstreamOn523, if_neg h]

/-- Settles O11: a counted pulse by the two cases of `countOpener523`, any other pulse by those of
`otherClass523`, in a chunk that must be open, since the pulse is not counted. -/
theorem bitstreamOn523Result : Obligations.BitstreamOn523Result := by
  intro s d hcount counted fourth f next
  have count_eq_three (h4 : fourth) : s.f523.bitstreamOpenerCount = 3#8 :=
    BitVec.eq_of_toNat_eq (Nat.succ.inj h4)
  have open_of_uncounted (hc : ¬ counted) : s.f523.chunkOpen = true :=
    Bool.eq_true_of_not_eq_false (not_or.mp hc).2
  rw [exec_m523BitstreamOn]
  refine ⟨fun hc h4 => ?counts, fun hc h4 hopen => ?inChunk, fun hc h4 hclosed => ?opens,
    fun hc hlast => ?resets, fun hc hlast => ?ignored⟩
  case counts =>
    rw [onBitstreamOn523_counted _ hc,
      countOpener523_counts _ hcount fun h3 => h4 (congrArg Nat.succ h3)]
    rfl
  case inChunk =>
    rw [onBitstreamOn523_counted _ hc, countOpener523_fourth _ (count_eq_three h4), if_pos hopen]
    rfl
  case opens =>
    rw [onBitstreamOn523_counted _ hc, countOpener523_fourth _ (count_eq_three h4),
      if_neg (Bool.eq_false_iff.mp hclosed)]
    rfl
  case resets =>
    rw [onBitstreamOn523_uncounted _ hc, otherClass523_eq, if_pos ⟨open_of_uncounted hc, hlast⟩]
    rfl
  case ignored =>
    rw [onBitstreamOn523_uncounted _ hc, otherClass523_eq, if_neg fun h => hlast h.2]
    rfl

/-! ### `BIT_0_ON` (R171) -/

/-- A 0 bit is taken after a `BIT_0_OFF` in an open chunk with room for it. -/
theorem onBit0On523_takes (f : Framing523)
    (h : f.chunkOpen = true ∧ f.lastClass = .bit0Off ∧ f.bitstreamSize.toNat < 48) :
    onBit0On523 f = withLast523 (storeBit523 f false) .bit0On := by
  rw [onBit0On523, if_pos h]

theorem onBit0On523_ignores (f : Framing523)
    (h : ¬ (f.chunkOpen = true ∧ f.lastClass = .bit0Off ∧ f.bitstreamSize.toNat < 48)) :
    onBit0On523 f = withLast523 (f, 0#64) .bit0On := by
  rw [onBit0On523, if_neg h]

/-- Settles O12: a bit that is taken grows the buffer or, the 48th, emits it. -/
theorem bit0On523Result : Obligations.Bit0On523Result := by
  intro s d takes f next
  rw [exec_m523Bit0On]
  refine ⟨fun htakes hsize => ?grows, fun htakes hsize => ?emits, fun hnot => ?ignored⟩
  case grows => rw [onBit0On523_takes _ htakes, storeBit523_grows _ _ hsize]; rfl
  case emits => rw [onBit0On523_takes _ htakes, storeBit523_emits _ _ hsize]; rfl
  case ignored => rw [onBit0On523_ignores _ hnot]; rfl

/-! ### `BIT_1_ON` (R172) -/

/-- A 1 bit is taken after a `BIT_1_OFF` in an open chunk with room for it. -/
theorem onBit1On523_takes (f : Framing523)
    (h : f.chunkOpen = true ∧ f.lastClass = .bit1Off ∧ f.bitstreamSize.toNat < 48) :
    onBit1On523 f = withLast523 (storeBit523 f true) .bit1On := by
  rw [onBit1On523, if_pos h]

/-- A buffer that is full already is emitted after a `BIT_0_OFF`; the two clauses of R172 exclude
each other by `last_class`. -/
theorem onBit1On523_emitsFull (f : Framing523)
    (h : f.chunkOpen = true ∧ f.lastClass = .bit0Off ∧ f.bitstreamSize.toNat = 48) :
    onBit1On523 f = withLast523 (closeBitstream523 f, f.bitstream) .bit1On := by
  have hlast : f.lastClass ≠ .bit1Off := by rw [h.2.1]; decide
  rw [onBit1On523, if_neg fun ht => hlast ht.2.1, if_pos h]

theorem onBit1On523_ignores (f : Framing523)
    (htakes : ¬ (f.chunkOpen = true ∧ f.lastClass = .bit1Off ∧ f.bitstreamSize.toNat < 48))
    (hfull : ¬ (f.chunkOpen = true ∧ f.lastClass = .bit0Off ∧ f.bitstreamSize.toNat = 48)) :
    onBit1On523 f = withLast523 (f, 0#64) .bit1On := by
  rw [onBit1On523, if_neg htakes, if_neg hfull]

/-- The bit that `storeBit523` sets at position `k`, as the power of two it is. -/
theorem one_shiftLeft_eq_ofNat_two_pow (k : Nat) : 1#64 <<< k = BitVec.ofNat 64 (2 ^ k) := by
  apply BitVec.eq_of_toNat_eq
  simp [Nat.shiftLeft_eq]

/-- Settles O13: a bit that is taken grows the buffer or, the 48th, emits it; after a `BIT_0_OFF` the
full buffer is emitted as it is. -/
theorem bit1On523Result : Obligations.Bit1On523Result := by
  intro s d takes emitsFull buffer f next
  have stored_eq_buffer :
      s.f523.bitstream ||| 1#64 <<< (47 - s.f523.bitstreamSize.toNat) = buffer := by
    rw [one_shiftLeft_eq_ofNat_two_pow]
  rw [exec_m523Bit1On]
  refine ⟨fun htakes hsize => ?grows, fun htakes hsize => ?emits, fun hfull => ?emitsFull,
    fun hnot hnotFull => ?ignored⟩
  case grows =>
    rw [onBit1On523_takes _ htakes, storeBit523_grows _ _ hsize, if_pos rfl, stored_eq_buffer]
    rfl
  case emits =>
    rw [onBit1On523_takes _ htakes, storeBit523_emits _ _ hsize, if_pos rfl, stored_eq_buffer]
    rfl
  case emitsFull => rw [onBit1On523_emitsFull _ hfull]; rfl
  case ignored => rw [onBit1On523_ignores _ hnot hnotFull]; rfl

end Sys2Proof.Machine
end

section
/-!
The rows of model 00609 (43_framing_609.md R210 to R217). As for 00523: first what each class does to
a framing record, one equation per clause of its rule; the obligations then say the same of the whole
state, where `framed609` adds the observation points and nothing else.
-/

namespace Sys2Proof.Machine

/-! ### Each row is one `parse_rf` call of its class -/

theorem exec_m609Off (d : Duration) (s : State) :
    exec (.m609Off d) s = .next (framed609 s .off (onOff609 s.f609)) := rfl
theorem exec_m609ChunkStart (d : Duration) (s : State) :
    exec (.m609ChunkStart d) s =
      .next (framed609 s .chunkStart (onChunkStart609 s.f609)) := rfl
theorem exec_m609Bit0 (d : Duration) (s : State) :
    exec (.m609Bit0 d) s = .next (framed609 s .bit0 (onBit0609 s.f609)) := rfl
theorem exec_m609Bit1 (d : Duration) (s : State) :
    exec (.m609Bit1 d) s = .next (framed609 s .bit1 (onBit1609 s.f609)) := rfl
theorem exec_m609BitstreamStart (d : Duration) (s : State) :
    exec (.m609BitstreamStart d) s =
      .next (framed609 s .bitstreamStart (onBitstreamStart609 s.f609)) := rfl
theorem exec_m609BitstreamEnd (d : Duration) (s : State) :
    exec (.m609BitstreamEnd d) s =
      .next (framed609 s .bitstreamEnd (onBitstreamEnd609 s.f609)) := rfl
theorem exec_m609ChunkEnd (d : Duration) (s : State) :
    exec (.m609ChunkEnd d) s = .next (framed609 s .chunkEnd (onChunkEnd609 s.f609)) := rfl
theorem exec_m609Inv (l : Level) (d : Duration) (s : State) :
    exec (.m609Inv l d) s = .next (framed609 s .inv (onInv609 s.f609)) := rfl

/-! ### `OFF`, `CHUNK_START` and `INV` (R210, R216, R217) -/

/-- Settles O15: in each of the three classes `last_class` is the only write (R203). -/
theorem offChunkStartInvRows609Result : Obligations.OffChunkStartInvRows609Result := by
  intro s l d
  refine ⟨?off, ?chunkStart, ?inv⟩
  case off => rw [exec_m609Off, onOff609]; rfl
  case chunkStart => rw [exec_m609ChunkStart, onChunkStart609]; rfl
  case inv => rw [exec_m609Inv, onInv609]; rfl

/-! ### `BIT_0` and `BIT_1` (R211, R212) -/

theorem takesBit609_iff (f : Framing609) :
    takesBit609 f = true ↔ f.lastClass = .off ∧ f.chunkOpen = true ∧ f.bitstreamOpen = true ∧
      f.bitstreamSize.toNat < 40 := by
  simp [takesBit609, and_assoc]

theorem onBit0609_takes (f : Framing609) (h : takesBit609 f = true) :
    onBit0609 f = withLast609 (storeBit609 f false) .bit0 := by
  rw [onBit0609, if_pos h]

theorem onBit0609_ignores (f : Framing609) (h : ¬ takesBit609 f = true) :
    onBit0609 f = withLast609 (f, 0#64) .bit0 := by
  rw [onBit0609, if_neg h]

theorem onBit1609_takes (f : Framing609) (h : takesBit609 f = true) :
    onBit1609 f = withLast609 (storeBit609 f true) .bit1 := by
  rw [onBit1609, if_pos h]

theorem onBit1609_ignores (f : Framing609) (h : ¬ takesBit609 f = true) :
    onBit1609 f = withLast609 (f, 0#64) .bit1 := by
  rw [onBit1609, if_neg h]

/-- Settles O16: a bit that is taken grows the buffer or, the 40th, emits it; the two rows differ in
the bit that `storeBit609` is given. -/
theorem bitRows609Result : Obligations.BitRows609Result := by
  intro s d takes buffer next emptied grown
  have takesBit : takesBit609 s.f609 = true ↔ takes := takesBit609_iff s.f609
  have stored_eq_buffer :
      s.f609.bitstream ||| 1#64 <<< (39 - s.f609.bitstreamSize.toNat) = buffer := by
    rw [one_shiftLeft_eq_ofNat_two_pow]
  rw [exec_m609Bit0, exec_m609Bit1]
  refine ⟨fun htakes hsize => ⟨?grows0, ?grows1⟩, fun htakes hsize => ⟨?emits0, ?emits1⟩,
    fun hnot => ⟨?ignored0, ?ignored1⟩⟩
  case grows0 =>
    rw [onBit0609_takes _ (takesBit.mpr htakes), storeBit609_grows _ _ hsize]
    rfl
  case grows1 =>
    rw [onBit1609_takes _ (takesBit.mpr htakes), storeBit609_grows _ _ hsize, if_pos rfl,
      stored_eq_buffer]
    rfl
  case emits0 =>
    rw [onBit0609_takes _ (takesBit.mpr htakes), storeBit609_emits _ _ hsize]
    rfl
  case emits1 =>
    rw [onBit1609_takes _ (takesBit.mpr htakes), storeBit609_emits _ _ hsize, if_pos rfl,
      stored_eq_buffer]
    rfl
  case ignored0 => rw [onBit0609_ignores _ (mt takesBit.mp hnot)]; rfl
  case ignored1 => rw [onBit1609_ignores _ (mt takesBit.mp hnot)]; rfl

/-! ### `BITSTREAM_START` (R213) -/

theorem onBitstreamStart609_opensChunk (f : Framing609) (hlast : f.lastClass = .off)
    (hclosed : f.chunkOpen = false) :
    onBitstreamStart609 f = withLast609 (openChunk609 f, 0#64) .bitstreamStart := by
  rw [onBitstreamStart609, if_pos ⟨hlast, hclosed⟩]

/-- In an open chunk the bitstream is opened, after a buffer that is full is emitted. -/
theorem onBitstreamStart609_opensBitstream (f : Framing609) (hlast : f.lastClass = .off)
    (hopen : f.chunkOpen = true) (hclosed : f.bitstreamOpen = false) :
    onBitstreamStart609 f =
      withLast609 (openBitstream609 f, emitIfFull609 f) .bitstreamStart := by
  rw [onBitstreamStart609, if_neg fun h => Bool.eq_false_iff.mp h.2 hopen, if_pos ⟨hlast, hclosed⟩]

/-- Where the gate is not armed, or the chunk and the bitstream are open, nothing is left to open. -/
theorem onBitstreamStart609_ignores (f : Framing609)
    (h : f.lastClass ≠ .off ∨ (f.chunkOpen = true ∧ f.bitstreamOpen = true)) :
    onBitstreamStart609 f = withLast609 (f, 0#64) .bitstreamStart := by
  rw [onBitstreamStart609]
  obtain hlast | ⟨hchunk, hbits⟩ := h
  · rw [if_neg fun h => hlast h.1, if_neg fun h => hlast h.1]
  · rw [if_neg fun h => Bool.eq_false_iff.mp h.2 hchunk,
      if_neg fun h => Bool.eq_false_iff.mp h.2 hbits]

/-- Settles O17: one clause of R213 per case. -/
theorem bitstreamStart609Result : Obligations.BitstreamStart609Result := by
  intro s d f next
  rw [exec_m609BitstreamStart]
  refine ⟨fun hlast hclosed => ?opensChunk, fun hlast hopen hclosed => ?opensBitstream,
    fun hnot => ?ignored⟩
  case opensChunk => rw [onBitstreamStart609_opensChunk _ hlast hclosed]; rfl
  case opensBitstream => rw [onBitstreamStart609_opensBitstream _ hlast hopen hclosed]; rfl
  case ignored => rw [onBitstreamStart609_ignores _ hnot]; rfl

/-! ### `BITSTREAM_END` and `CHUNK_END` (R214, R215) -/

theorem onBitstreamEnd609_ends (f : Framing609)
    (h : f.lastClass = .off ∧ f.chunkOpen = true ∧ f.bitstreamOpen = true) :
    onBitstreamEnd609 f = withLast609 (closeBitstream609 f, emitIfFull609 f) .bitstreamEnd := by
  rw [onBitstreamEnd609, if_pos h]

theorem onBitstreamEnd609_ignores (f : Framing609)
    (h : ¬ (f.lastClass = .off ∧ f.chunkOpen = true ∧ f.bitstreamOpen = true)) :
    onBitstreamEnd609 f = withLast609 (f, 0#64) .bitstreamEnd := by
  rw [onBitstreamEnd609, if_neg h]

/-- `CHUNK_END` asks for an open chunk only, with or without a bitstream in it. -/
theorem onChunkEnd609_closes (f : Framing609) (h : f.lastClass = .off ∧ f.chunkOpen = true) :
    onChunkEnd609 f = withLast609 (closeChunk609 f, emitIfFull609 f) .chunkEnd := by
  rw [onChunkEnd609, if_pos h]

theorem onChunkEnd609_ignores (f : Framing609)
    (h : ¬ (f.lastClass = .off ∧ f.chunkOpen = true)) :
    onChunkEnd609 f = withLast609 (f, 0#64) .chunkEnd := by
  rw [onChunkEnd609, if_neg h]

/-- Settles O18: the two clauses of R214 and the two of R215; the candidate of a row that acts is
`emitIfFull609` of the record before it. -/
theorem endRows609Result : Obligations.EndRows609Result := by
  intro s d full next ends closes
  rw [exec_m609BitstreamEnd, exec_m609ChunkEnd]
  refine ⟨fun hends => ?ends, fun hnot => ?endIgnored, fun hcloses => ?closes,
    fun hnot => ?closeIgnored⟩
  case ends => rw [onBitstreamEnd609_ends _ hends]; rfl
  case endIgnored => rw [onBitstreamEnd609_ignores _ hnot]; rfl
  case closes => rw [onChunkEnd609_closes _ hcloses]; rfl
  case closeIgnored => rw [onChunkEnd609_ignores _ hnot]; rfl

end Sys2Proof.Machine
end

section
/-!
`VALIDATE` of a 00523 device (44_validator_523.md R230 to R242). First each field of format C523 as a
number read off the candidate, then one lemma per check of R232 to R236 in these numbers; the
obligation puts the checks together in their order and adds the latches (R237, R238) and the frame.
-/

namespace Sys2Proof.Machine

/-! ### Bit fields as numbers -/

/-- A one-bit field is that bit. -/
theorem field_one_toNat (w : Cand) (k : Nat) : (field w k 1).toNat = (w.getLsbD k).toNat := by
  rw [field_toNat, BitVec.getLsbD, Nat.toNat_testBit, pow_one]

/-- A byte lane is a digit of the candidate in base 256. -/
theorem lane_toNat (w : Cand) (k : Nat) : (lane w k).toNat = w.toNat / 256 ^ k % 256 := by
  rw [lane, field_toNat, pow_mul]
  rfl

/-- Counting is summing truth values. -/
theorem countP_eq_sum_map_toNat {α : Type} (p : α → Bool) (l : List α) :
    l.countP p = (l.map fun x => (p x).toNat).sum := by
  induction l with
  | nil => rfl
  | cons x xs ih => cases h : p x <;> simp [h, ih, Nat.add_comm]

/-- The 1 bits of a field, summed at their places in the candidate. -/
theorem popcount_field (w : Cand) (lo n : Nat) :
    popcount (field w lo n) = ((List.range n).map fun i => (w.getLsbD (lo + i)).toNat).sum := by
  have bit_of_field : ∀ i ∈ List.range n,
      ((field w lo n).getLsbD i).toNat = (w.getLsbD (lo + i)).toNat := by
    intro i hi
    simp [field, List.mem_range.mp hi]
  rw [popcount, countP_eq_sum_map_toNat, List.map_congr_left bit_of_field]

/-! ### The latched values (R87, R236, R237) -/

/-- The two 7-bit halves do not overlap, so the raw temperature is their sum. -/
theorem c523Raw_toNat (w : Cand) :
    (c523Raw w).toNat = w.toNat / 2 ^ 16 % 128 * 128 + w.toNat / 2 ^ 8 % 128 := by
  have byte2_eq : (c523Byte2 w).toNat = w.toNat / 2 ^ 16 % 128 := field_toNat w 16 7
  have byte1_eq : (c523Byte1 w).toNat = w.toNat / 2 ^ 8 % 128 := field_toNat w 8 7
  have high_eq : ((c523Byte2 w).setWidth 14 <<< 7).toNat = (c523Byte2 w).toNat <<< 7 := by
    rw [BitVec.toNat_shiftLeft, BitVec.toNat_setWidth, Nat.shiftLeft_eq, Nat.shiftLeft_eq]
    omega
  have low_eq : ((c523Byte1 w).setWidth 14).toNat = (c523Byte1 w).toNat := by
    rw [BitVec.toNat_setWidth]
    omega
  rw [c523Raw, BitVec.toNat_or, high_eq, low_eq,
    ← Nat.shiftLeft_add_eq_or_of_lt (c523Byte1 w).isLt, Nat.shiftLeft_eq, byte2_eq, byte1_eq]

theorem c523Temp_eq (w : Cand) :
    c523Temp w =
      ((w.toNat / 2 ^ 16 % 128 * 128 + w.toNat / 2 ^ 8 % 128 : Nat) : Int) - 1800 := by
  rw [c523Temp, c523Raw_toNat]

theorem c523Battery_setWidth (w : Cand) :
    (c523Battery w).setWidth 8 = BitVec.ofNat 8 (w.toNat / 2 ^ 30 % 4) := by
  apply BitVec.eq_of_toNat_eq
  rw [BitVec.toNat_setWidth, BitVec.toNat_ofNat, c523Battery, field_toNat]
  rfl

/-! ### The checks (R232 to R236) -/

/-- A candidate of 48 bits is zero where the bits that the validator reads are. -/
theorem c523Word_eq_zero_iff {w : Cand} (hw : w.toNat < 2 ^ 48) : c523Word w = 0#48 ↔ w = 0#64 := by
  rw [← BitVec.toNat_inj, ← BitVec.toNat_inj, c523Word, field_toNat, pow_zero, Nat.div_one,
    Nat.mod_eq_of_lt hw]
  rfl

/-- The signature is all that a candidate of 48 bits holds from bit 32 on. -/
theorem c523Signature_eq_iff {w : Cand} (hw : w.toNat < 2 ^ 48) (sig : BitVec 16) :
    c523Signature w = sig ↔ w.toNat / 2 ^ 32 = sig.toNat := by
  rw [← BitVec.toNat_inj, c523Signature, field_toNat, Nat.mod_eq_of_lt (by omega)]

theorem laneSum_c523 (w : Cand) :
    laneSum w [5, 4, 3, 2, 1] =
      (w.toNat / 256 ^ 5 % 256 + w.toNat / 256 ^ 4 % 256 + w.toNat / 256 ^ 3 % 256 +
        w.toNat / 256 ^ 2 % 256 + w.toNat / 256 ^ 1 % 256) % 256 := by
  simp only [laneSum, List.map_cons, List.map_nil, List.sum_cons, List.sum_nil, lane_toNat,
    Nat.add_zero, Nat.add_assoc]

/-- The checksum is byte lane 0. -/
theorem c523Checksum_toNat (w : Cand) : (c523Checksum w).toNat = w.toNat / 256 ^ 0 % 256 :=
  lane_toNat w 0

/-- The range check, its bounds in degrees taken times 18 as the numerator is. -/
theorem inRange523_iff (t : Int) :
    (Config.tempMinC * Config.t523Div ≤ t ∧ t < Config.tempMaxC * Config.t523Div) ↔
      -720 ≤ t ∧ t < 1260 :=
  Iff.rfl

/-! ### `VALIDATE` -/

/-- The latches are written where the checks accept, and only there (R242). -/
theorem validate523_eq (r : DeviceRecord) (w : Cand) :
    validate523 r w = (check523 r w, if check523 r w = .accept then latch523 r w else r) := by
  obtain ⟨reason, hcheck, h⟩ | ⟨hcheck, h⟩ := validate523_cases r w
  · rw [h, hcheck, if_neg Result.noConfusion]
  · rw [h, hcheck, if_pos rfl]

theorem runValidator_of_523 {dev : Device} (hdev : dev = .freezer ∨ dev = .fridge)
    (r : DeviceRecord) (w : Cand) : runValidator dev r w = validate523 r w := by
  obtain rfl | rfl := hdev <;> rfl

/-- What `VALIDATE` writes, whichever the device: its record, and the call with its result at the
observation point. -/
theorem exec_validate (s : State) (dev : Device) (w : Cand) :
    exec (.validate dev w) s =
      .next ({ s with out := { Output.empty with
          validations := [(dev, (runValidator dev (s.device dev) w).1)] } }.setDevice dev
        (runValidator dev (s.device dev) w).2) := by
  cases dev <;> rfl

/-- Settles O29: the checks agree one by one with the statement's (`check_eq_result`), and so do the
latches; both parity bits give the same reason, so the statement has one clause for the two. -/
theorem validate523Result : Obligations.Validate523Result := by
  intro s dev w hdev hw byte ones t r result latched
  have check_eq_result : check523 r w = result := by
    have parity1_iff : popcount (c523Byte1 w) % 2 ≠ (c523Parity1 w).toNat ↔
        ones 8 % 2 ≠ (w.getLsbD 15).toNat := by
      rw [c523Byte1, popcount_field, c523Parity1, field_one_toNat]
    have parity2_iff : popcount (c523Byte2 w) % 2 ≠ (c523Parity2 w).toNat ↔
        ones 16 % 2 ≠ (w.getLsbD 23).toNat := by
      rw [c523Byte2, popcount_field, c523Parity2, field_one_toNat]
    simp only [check523, result, c523Word_eq_zero_iff hw, ne_eq, c523Signature_eq_iff hw,
      laneSum_c523, c523Checksum_toNat, parity1_iff, parity2_iff, ite_or, inRange523_iff,
      c523Temp_eq, byte, t]
  have latch_eq_latched : latch523 r w = latched := by
    rw [latch523, c523Battery_setWidth, c523Temp_eq]
  rw [exec_validate, runValidator_of_523 hdev, validate523_eq, check_eq_result, latch_eq_latched]

end Sys2Proof.Machine
end

section
/-!
`VALIDATE` of OUTDOOR (45_validator_609.md R250 to R262), by the same plan as for 00523: the fields of
format C609 as numbers, one lemma per check of R251 to R256, the latches of R257 to R260, and the
obligation put together from these.
-/

namespace Sys2Proof.Machine

/-! ### The fields and latched values (R86, R88, R255) -/

/-- A field in a wider register is the field's number in it. -/
theorem field_setWidth (w : Cand) (lo n m : Nat) :
    (field w lo n).setWidth m = BitVec.ofNat m (w.toNat / 2 ^ lo % 2 ^ n) := by
  rw [← BitVec.ofNat_toNat, field_toNat]

/-- The signature is byte lane 4. -/
theorem c609Signature_toNat (w : Cand) :
    (c609Signature w).toNat = w.toNat / 256 ^ 4 % 256 :=
  lane_toNat w 4

theorem c609Signature_setWidth (w : Cand) :
    (c609Signature w).setWidth 16 = BitVec.ofNat 16 (w.toNat / 256 ^ 4 % 256) :=
  field_setWidth w 32 8 16

theorem c609Battery_setWidth (w : Cand) :
    (c609Battery w).setWidth 8 = BitVec.ofNat 8 (w.toNat / 2 ^ 30 % 4) :=
  field_setWidth w 30 2 8

theorem c609Hum_toNat (w : Cand) : (c609Hum w).toNat = w.toNat / 2 ^ 8 % 128 :=
  field_toNat w 8 7

theorem c609Hum_setWidth (w : Cand) :
    (c609Hum w).setWidth 8 = BitVec.ofNat 8 (w.toNat / 2 ^ 8 % 128) :=
  field_setWidth w 8 7 8

/-- Bit 27 of the candidate is the top bit of the 13-bit temperature, so it says whether that is in
the upper half of its range. -/
theorem getLsbD_27_iff (w : Cand) :
    w.getLsbD 27 = true ↔ 4096 ≤ w.toNat / 2 ^ 15 % 2 ^ 13 := by
  rw [BitVec.getLsbD, Nat.testBit_eq_decide_div_mod_eq, decide_eq_true_iff]
  omega

/-- The sign correction is that of a 13-bit two's complement number. -/
theorem c609Temp_eq (w : Cand) :
    c609Temp w =
      if 4096 ≤ w.toNat / 2 ^ 15 % 2 ^ 13 then ((w.toNat / 2 ^ 15 % 2 ^ 13 : Nat) : Int) - 8192
      else ((w.toNat / 2 ^ 15 % 2 ^ 13 : Nat) : Int) := by
  simp only [c609Temp, getLsbD_27_iff, c609Temp13, field_toNat]

/-! ### The checks (R251 to R256) -/

/-- A candidate of 40 bits is zero where the bits that the validator reads are. -/
theorem c609Word_eq_zero_iff {w : Cand} (hw : w.toNat < 2 ^ 40) : c609Word w = 0#40 ↔ w = 0#64 := by
  rw [← BitVec.toNat_inj, ← BitVec.toNat_inj, c609Word, field_toNat, pow_zero, Nat.div_one,
    Nat.mod_eq_of_lt hw]
  rfl

/-- The record holds the 8-bit signature zero-extended (R252). -/
theorem c609Signature_eq_iff (w : Cand) (sig : BitVec 16) :
    (c609Signature w).setWidth 16 = sig ↔ w.toNat / 256 ^ 4 % 256 = sig.toNat := by
  rw [← BitVec.toNat_inj, BitVec.toNat_setWidth_of_le (by decide), c609Signature_toNat]

/-- A signature is latched once it is not 0. -/
theorem signature_eq_zero_iff (sig : BitVec 16) : sig = 0#16 ↔ sig.toNat = 0 :=
  BitVec.toNat_inj.symm

theorem c609Channel_eq_iff (w : Cand) :
    c609Channel w = Config.channel609 ↔ w.toNat / 2 ^ 28 % 4 = 2 := by
  rw [← BitVec.toNat_inj, c609Channel, field_toNat]
  rfl

theorem laneSum_c609 (w : Cand) :
    laneSum w [4, 3, 2, 1] =
      (w.toNat / 256 ^ 4 % 256 + w.toNat / 256 ^ 3 % 256 + w.toNat / 256 ^ 2 % 256 +
        w.toNat / 256 ^ 1 % 256) % 256 := by
  simp only [laneSum, List.map_cons, List.map_nil, List.sum_cons, List.sum_nil, lane_toNat,
    Nat.add_zero, Nat.add_assoc]

/-- The checksum is byte lane 0. -/
theorem c609Checksum_toNat (w : Cand) : (c609Checksum w).toNat = w.toNat / 256 ^ 0 % 256 :=
  lane_toNat w 0

/-- The range check, its temperature bounds in degrees taken times 20 as the numerator is. -/
theorem inRange609_iff (hum : Nat) (t : Int) :
    (Config.humMin ≤ hum ∧ hum ≤ Config.humMax ∧ Config.tempMinC * Config.t609Div ≤ t ∧
        t ≤ Config.tempMaxC * Config.t609Div) ↔
      1 ≤ hum ∧ hum ≤ 99 ∧ -800 ≤ t ∧ t ≤ 1400 :=
  Iff.rfl

/-! ### `VALIDATE` -/

/-- The latches are written where the checks accept, and only there (R262). -/
theorem validate609_eq (r : DeviceRecord) (w : Cand) :
    validate609 r w = (check609 r w, if check609 r w = .accept then latch609 r w else r) := by
  obtain ⟨reason, hcheck, h⟩ | ⟨hcheck, h⟩ := validate609_cases r w
  · rw [h, hcheck, if_neg Result.noConfusion]
  · rw [h, hcheck, if_pos rfl]

/-- For OUTDOOR the validator is that of 00609, and the record it may write is `outdoor`. -/
theorem exec_validate_outdoor (s : State) (w : Cand) :
    exec (.validate .outdoor w) s =
      .next { s with
        outdoor := (validate609 s.outdoor w).2
        out := { Output.empty with
          validations := [(.outdoor, (validate609 s.outdoor w).1)] } } :=
  exec_validate s .outdoor w

/-- Settles O30: the checks agree one by one with the statement's (`check_eq_result`), and so do the
latches, the signature's condition included. -/
theorem validate609Result : Obligations.Validate609Result := by
  intro s w hw byte raw t hum r result latched
  have check_eq_result : check609 r w = result := by
    simp only [check609, result, c609Word_eq_zero_iff hw, ne_eq, signature_eq_zero_iff,
      c609Signature_eq_iff, c609Channel_eq_iff, laneSum_c609, c609Checksum_toNat, inRange609_iff,
      c609Hum_toNat, c609Temp_eq, byte, hum, t, raw]
  have latch_eq_latched : latch609 r w = latched := by
    simp only [latch609, latched, signature_eq_zero_iff, c609Signature_setWidth,
      c609Battery_setWidth, c609Hum_setWidth, c609Temp_eq, byte, hum, t, raw]
  rw [exec_validate_outdoor, validate609_eq, check_eq_result, latch_eq_latched]

end Sys2Proof.Machine
end

section
/-!
The step of the whole block on one event (46_dispatcher.md R271). First one equation per branch of
`offer` and of `dispatch`; from these what the poll of each model does: 00523 takes the step
(`eventStep_of_freezer_accepts`, `eventStep_of_fridge_accepts`) or leaves it to 00609
(`eventStep_of_no_candidate523`, `eventStep_of_rejected523`), whose poll is `dispatch_outdoor_eq`.
-/

namespace Sys2Proof.Machine

theorem exec_event (l : Level) (d : Duration) (s : State) :
    exec (.event l d) s = .next (eventStep s l d) := rfl

/-! ### One model's devices (R271 item 2) -/

/-- The device at the head accepts, and those after it are not asked. -/
theorem offer_cons_of_accept {w : Cand} {dev : Device} {rest : List Device} {s : State}
    (h : (runValidator dev (s.device dev) w).1 = .accept) :
    offer w (dev :: rest) s = (accept (validateDevice s dev w) dev, true) := by
  rw [offer, if_pos h]

/-- The device at the head rejects: the call is noted, and the next device is asked. -/
theorem offer_cons_of_reject {w : Cand} {dev : Device} {rest : List Device} {s : State}
    (h : (runValidator dev (s.device dev) w).1 ≠ .accept) :
    offer w (dev :: rest) s =
      offer w rest (withCalls s
        (s.out.validations ++ [(dev, (runValidator dev (s.device dev) w).1)])) := by
  rw [offer, if_neg h, validateDevice_reject s dev w h]
  rfl

/-! ### The models in their order (R272, R273) -/

theorem dispatch_cons_of_no_candidate {m : Model} {devs : List Device}
    {rest : List (Model × List Device)} {s : State} (h : s.out.cand m = 0#64) :
    dispatch ((m, devs) :: rest) s = dispatch rest s := by
  rw [dispatch, if_pos h]

/-- An acceptance ends the step: the models after it are not polled. -/
theorem dispatch_cons_of_claimed {m : Model} {devs : List Device}
    {rest : List (Model × List Device)} {s t : State} (h : s.out.cand m ≠ 0#64)
    (claimed : offer (s.out.cand m) devs s = (t, true)) : dispatch ((m, devs) :: rest) s = t := by
  rw [dispatch, if_neg h, claimed, if_pos rfl]

theorem dispatch_cons_of_unclaimed {m : Model} {devs : List Device}
    {rest : List (Model × List Device)} {s t : State} (h : s.out.cand m ≠ 0#64)
    (unclaimed : offer (s.out.cand m) devs s = (t, false)) :
    dispatch ((m, devs) :: rest) s = dispatch rest t := by
  rw [dispatch, if_neg h, unclaimed, if_neg Bool.false_ne_true]

/-- The poll of 00609, the last model, with its one device. -/
theorem dispatch_outdoor_eq (s : State) :
    dispatch [(.m609, [.outdoor])] s =
      if s.out.cand609 = 0#64 then s
      else if (validate609 s.outdoor s.out.cand609).1 = .accept then
        accept (validateDevice s .outdoor s.out.cand609) .outdoor
      else withCalls s
        (s.out.validations ++ [(.outdoor, (validate609 s.outdoor s.out.cand609).1)]) := by
  split_ifs with hzero haccept
  case pos => exact dispatch_cons_of_no_candidate hzero
  case pos => exact dispatch_cons_of_claimed hzero (offer_cons_of_accept haccept)
  case neg => exact dispatch_cons_of_unclaimed hzero (offer_cons_of_reject haccept)

/-! ### The poll of 00523 in the step -/

section Poll523
variable {s : State} {l : Level} {d : Duration}

theorem eventStep_of_no_candidate523 (hzero : (parseRf523 s.f523 l d).2 = 0#64) :
    eventStep s l d = dispatch [(.m609, [.outdoor])] (frameEvent s l d) :=
  dispatch_cons_of_no_candidate hzero

theorem eventStep_of_freezer_accepts (hcand : (parseRf523 s.f523 l d).2 ≠ 0#64)
    (hfreezer : (validate523 s.freezer (parseRf523 s.f523 l d).2).1 = .accept) :
    eventStep s l d =
      accept (validateDevice (frameEvent s l d) .freezer (parseRf523 s.f523 l d).2) .freezer :=
  dispatch_cons_of_claimed hcand (offer_cons_of_accept hfreezer)

/-- FRIDGE is asked after FREEZER, whose rejection stands at the observation point. -/
theorem eventStep_of_fridge_accepts (hcand : (parseRf523 s.f523 l d).2 ≠ 0#64)
    (hfreezer : (validate523 s.freezer (parseRf523 s.f523 l d).2).1 ≠ .accept)
    (hfridge : (validate523 s.fridge (parseRf523 s.f523 l d).2).1 = .accept) :
    eventStep s l d =
      accept (validateDevice
        (withCalls (frameEvent s l d)
          [(.freezer, (validate523 s.freezer (parseRf523 s.f523 l d).2).1)])
        .fridge (parseRf523 s.f523 l d).2) .fridge :=
  dispatch_cons_of_claimed hcand
    ((offer_cons_of_reject (dev := .freezer) (s := frameEvent s l d) hfreezer).trans
      (offer_cons_of_accept hfridge))

/-- Two rejections leave the step to 00609, both calls noted. -/
theorem eventStep_of_rejected523 (hcand : (parseRf523 s.f523 l d).2 ≠ 0#64)
    (hfreezer : (validate523 s.freezer (parseRf523 s.f523 l d).2).1 ≠ .accept)
    (hfridge : (validate523 s.fridge (parseRf523 s.f523 l d).2).1 ≠ .accept) :
    eventStep s l d =
      dispatch [(.m609, [.outdoor])] (withCalls (frameEvent s l d)
        [(.freezer, (validate523 s.freezer (parseRf523 s.f523 l d).2).1),
         (.fridge, (validate523 s.fridge (parseRf523 s.f523 l d).2).1)]) :=
  dispatch_cons_of_unclaimed hcand
    ((offer_cons_of_reject (dev := .freezer) (s := frameEvent s l d) hfreezer).trans
      (offer_cons_of_reject hfridge))

end Poll523

/-- Settles O38: by what 00523 does with its candidate. Where neither of its devices takes it,
the last three branches of the statement are those of the 00609 poll. -/
theorem eventStepsTheWholeBlock : Obligations.EventStepsTheWholeBlock := by
  intro s l d p523 p609 vFreezer vFridge vOutdoor calls523 framed accepted
  rw [exec_event]
  by_cases hcand : p523.2 = 0#64
  case pos =>
    have hcalls : calls523 = [] := if_pos hcand
    rw [if_neg fun h => h.1 hcand, if_neg fun h => h.1 hcand, hcalls,
      eventStep_of_no_candidate523 hcand, dispatch_outdoor_eq]
    rfl
  have hcalls : calls523 = [(.freezer, vFreezer.1), (.fridge, vFridge.1)] := if_neg hcand
  by_cases hfreezer : vFreezer.1 = .accept
  case pos =>
    rw [if_pos ⟨hcand, hfreezer⟩, eventStep_of_freezer_accepts hcand hfreezer]
    rfl
  by_cases hfridge : vFridge.1 = .accept
  case pos =>
    rw [if_neg fun h => hfreezer h.2, if_pos ⟨hcand, hfridge⟩, hcalls,
      eventStep_of_fridge_accepts hcand hfreezer hfridge]
    rfl
  case neg =>
    rw [if_neg fun h => hfreezer h.2, if_neg fun h => hfridge h.2, hcalls,
      eventStep_of_rejected523 hcand hfreezer hfridge, dispatch_outdoor_eq]
    rfl

end Sys2Proof.Machine
end

section
/-!
`CREATE_PAYLOAD` (47_serializer.md R290 to R298): the bytes of each field of the image, one lemma
per field, and the obligation put together from these.
-/

namespace Sys2Proof.Machine

/-- `CREATE_PAYLOAD` puts out the image of the device's record and writes nothing else. -/
theorem exec_createPayload (s : State) (dev : Device) (status : Byte) :
    exec (.createPayload dev status) s =
      .next { s with out := { Output.empty with
        payload := some (createPayload (s.device dev) status) } } := rfl

/-- The image, its status and measurements as one list after the constant bytes (R300). -/
theorem createPayload_eq (r : DeviceRecord) (status : Byte) :
    createPayload r status =
      bytesLE32 Config.tag ++ bytesLE16 (Config.modelCode r.modelId) ++
        bytesLE16 (Config.deviceCode r.deviceId) ++
        ([status, r.battery] ++ bytesLE16 (payloadTemperature r) ++
          bytesLE16 (payloadHumidity r)) := by
  simp only [createPayload, List.append_assoc]

/-! ### The fields as bytes, the least significant first (R292 to R294, R298) -/

theorem bytesLE32_tag : bytesLE32 Config.tag = [0x62#8, 0x31#8, 0x07#8, 0x38#8] := rfl

theorem bytesLE16_modelCode (m : Model) :
    bytesLE16 (Config.modelCode m) =
      match m with
      | .m523 => [0x38#8, 0x06#8]
      | .m609 => [0xB9#8, 0x19#8] := by
  cases m <;> rfl

theorem bytesLE16_deviceCode (dev : Device) :
    bytesLE16 (Config.deviceCode dev) =
      match dev with
      | .freezer => [0xDA#8, 0x25#8]
      | .fridge => [0x68#8, 0x1E#8]
      | .outdoor => [0x35#8, 0x21#8] := by
  cases dev <;> rfl

/-- What of a number does not fit 16 bits reaches neither byte. -/
theorem bytesLE16_ofNat (n : Nat) :
    bytesLE16 (BitVec.ofNat 16 n) = [BitVec.ofNat 8 n, BitVec.ofNat 8 (n / 256)] := by
  have low : (BitVec.ofNat 16 n).extractLsb' 0 8 = BitVec.ofNat 8 n := by
    rw [← BitVec.toNat_inj, BitVec.extractLsb'_toNat, Nat.shiftRight_zero, BitVec.toNat_ofNat,
      BitVec.toNat_ofNat, Nat.mod_mod_of_dvd _ (by decide)]
  have high : (BitVec.ofNat 16 n).extractLsb' 8 8 = BitVec.ofNat 8 (n / 256) := by
    rw [← BitVec.toNat_inj, BitVec.extractLsb'_toNat, Nat.shiftRight_eq_div_pow,
      BitVec.toNat_ofNat, BitVec.toNat_ofNat]
    omega
  rw [bytesLE16, low, high]

/-- The two cases of R298 as one number. -/
theorem payloadHumidity_eq (r : DeviceRecord) :
    payloadHumidity r =
      BitVec.ofNat 16 (if r.modelId = .m609 then r.humidity.toNat * 10 else 0) := by
  unfold payloadHumidity
  cases r.modelId <;> rfl

/-- Settles O35: field by field; the bytes left open are the battery and the temperature as the
image holds them. -/
theorem createPayloadHeaderAndHumidity : Obligations.CreatePayloadHeaderAndHumidity := by
  intro s dev status r h
  refine ⟨r.battery, (payloadTemperature r).extractLsb' 0 8,
    (payloadTemperature r).extractLsb' 8 8, ?_⟩
  rw [exec_createPayload, createPayload_eq, bytesLE32_tag, bytesLE16_modelCode,
    bytesLE16_deviceCode, payloadHumidity_eq, bytesLE16_ofNat]
  rfl

end Sys2Proof.Machine
end

section
/-!
What `VALIDATE` does with a candidate it rejects (60_exceptions.md R322): the validator hands the
record back as it was (`runValidator_reject`), and storing it again changes nothing.
-/

namespace Sys2Proof.Machine

/-- The observation point is no part of a record, so storing a device's own record again leaves the
state as it was, whatever has been put out since. -/
theorem setDevice_self_of_out (s : State) (o : Output) (dev : Device) :
    { s with out := o }.setDevice dev (s.device dev) = { s with out := o } := by
  cases dev <;> rfl

/-- Settles O31: the record that `exec_validate` stores is the one the device had. -/
theorem rejectionWritesNothing : Obligations.RejectionWritesNothing := by
  intro s dev w reason hreject
  have record_kept : (runValidator dev (s.device dev) w).2 = s.device dev :=
    runValidator_reject dev _ w (hreject.trans_ne Result.noConfusion)
  rw [exec_validate, hreject, record_kept, setDevice_self_of_out]

end Sys2Proof.Machine
end

section
/-!
The command frame (30_encoding.md; notes/assumptions/2.md): decoding and encoding are inverse. The
sixteen `EV` rows are two families, one a model, each given by the class: `row523` and `row609`. A
row's frame is that of an event (`encode_row523`), a row is well-formed where the event lies in the
window of its class (`row523_wellFormed_iff`), and the classifier against its table does the rest.
-/

namespace Sys2Proof

open Machine

/-! ### The rows by class -/

/-- The 00523 row of a class (30_encoding.md R81); the level counts for `INV` only. -/
def row523 : Class523 → Level → Duration → Instr
  | .bit0Off, _, d => .m523Bit0Off d
  | .bit1Off, _, d => .m523Bit1Off d
  | .bitstreamOff, _, d => .m523BitstreamOff d
  | .bit1On, _, d => .m523Bit1On d
  | .bit0On, _, d => .m523Bit0On d
  | .bitstreamOn, _, d => .m523BitstreamOn d
  | .chunkEnd, _, d => .m523ChunkEnd d
  | .inv, l, d => .m523Inv l d

/-- The 00609 row of a class (R81); the level counts for `INV` only. -/
def row609 : Class609 → Level → Duration → Instr
  | .off, _, d => .m609Off d
  | .chunkStart, _, d => .m609ChunkStart d
  | .bit0, _, d => .m609Bit0 d
  | .bit1, _, d => .m609Bit1 d
  | .bitstreamStart, _, d => .m609BitstreamStart d
  | .bitstreamEnd, _, d => .m609BitstreamEnd d
  | .chunkEnd, _, d => .m609ChunkEnd d
  | .inv, l, d => .m609Inv l d

theorem instr523_eq_row523 (l : Level) (d : Duration) :
    instr523 l d = row523 (classify523 l d) l d := by
  unfold instr523
  cases classify523 l d <;> rfl

theorem instr609_eq_row609 (l : Level) (d : Duration) :
    instr609 l d = row609 (classify609 l d) l d := by
  unfold instr609
  cases classify609 l d <;> rfl

/-- The level of a class (R82): that of its window, for `INV` the one of the event. -/
def level523 : Class523 → Level → Level
  | .bit0Off, _ | .bit1Off, _ | .bitstreamOff, _ => false
  | .bit1On, _ | .bit0On, _ | .bitstreamOn, _ | .chunkEnd, _ => true
  | .inv, l => l

/-- The level of a class (R83): that of its window, for `INV` the one of the event. -/
def level609 : Class609 → Level → Level
  | .off, _ => false
  | .chunkStart, _ | .bit0, _ | .bit1, _ | .bitstreamStart, _ | .bitstreamEnd, _
  | .chunkEnd, _ => true
  | .inv, l => l

theorem row523_level523 (c : Class523) (l : Level) (d : Duration) :
    row523 c (level523 c l) d = row523 c l d := by
  cases c <;> rfl

theorem row609_level609 (c : Class609) (l : Level) (d : Duration) :
    row609 c (level609 c l) d = row609 c l d := by
  cases c <;> rfl

theorem encode_row523 (c : Class523) (l : Level) (d : Duration) :
    encode (row523 c l d) = parseFrame .m523 (level523 c l) d := by
  cases c <;> rfl

theorem encode_row609 (c : Class609) (l : Level) (d : Duration) :
    encode (row609 c l d) = parseFrame .m609 (level609 c l) d := by
  cases c <;> rfl

theorem level523_of_window523 {c : Class523} {l : Level} {n : Nat} (h : Window523 c l n) :
    level523 c l = l := by
  cases c
  case inv => rfl
  all_goals exact h.1.symm

theorem level609_of_window609 {c : Class609} {l : Level} {n : Nat} (h : Window609 c l n) :
    level609 c l = l := by
  cases c
  case inv => rfl
  all_goals exact h.1.symm

/-! ### Well-formed rows -/

theorem inWindow_iff (lo hi : Nat) (d : Duration) :
    inWindow lo hi d = true ↔ lo ≤ d.toNat ∧ d.toNat < hi := by
  simp [inWindow]

/-- The `INV` windows of R82 are the complement that R120 names: a duration ends below `2^32`. -/
theorem inv523Windows_iff (l : Level) (d : Duration) :
    ((inv523Windows l).any fun b => inWindow b.1 b.2 d) = true ↔ Window523 .inv l d.toNat := by
  have hd := d.isLt
  cases l <;> simp [inv523Windows, inWindow_iff, Window523] <;> omega

/-- The `INV` windows of R83 are the complement that R140 names. -/
theorem inv609Windows_iff (l : Level) (d : Duration) :
    ((inv609Windows l).any fun b => inWindow b.1 b.2 d) = true ↔ Window609 .inv l d.toNat := by
  have hd := d.isLt
  cases l <;> simp [inv609Windows, inWindow_iff, Window609] <;> omega

theorem row523_wellFormed_iff (c : Class523) (l : Level) (d : Duration) :
    (row523 c l d).wellFormed = true ↔ Window523 c (level523 c l) d.toNat := by
  cases c
  case inv => exact inv523Windows_iff l d
  all_goals exact (inWindow_iff _ _ d).trans (by simp [Window523, level523])

theorem row609_wellFormed_iff (c : Class609) (l : Level) (d : Duration) :
    (row609 c l d).wellFormed = true ↔ Window609 c (level609 c l) d.toNat := by
  cases c
  case inv => exact inv609Windows_iff l d
  all_goals exact (inWindow_iff _ _ d).trans (by simp [Window609, level609])

/-- The row that an event is, is well-formed: the event lies in the window of its class. -/
theorem instr523_wellFormed (l : Level) (d : Duration) : (instr523 l d).wellFormed = true := by
  have hwindow := window523_classify523 l d
  rw [instr523_eq_row523, row523_wellFormed_iff, level523_of_window523 hwindow]
  exact hwindow

theorem instr609_wellFormed (l : Level) (d : Duration) : (instr609 l d).wellFormed = true := by
  have hwindow := window609_classify609 l d
  rw [instr609_eq_row609, row609_wellFormed_iff, level609_of_window609 hwindow]
  exact hwindow

theorem encode_instr523 (l : Level) (d : Duration) :
    encode (instr523 l d) = parseFrame .m523 l d := by
  rw [instr523_eq_row523, encode_row523, level523_of_window523 (window523_classify523 l d)]

theorem encode_instr609 (l : Level) (d : Duration) :
    encode (instr609 l d) = parseFrame .m609 l d := by
  rw [instr609_eq_row609, encode_row609, level609_of_window609 (window609_classify609 l d)]

/-! ### Decoding a frame built from its parts -/

theorem decode_parseFrame_m523 (l : Level) (d : Duration) :
    decode (parseFrame .m523 l d) = .ok (instr523 l d) := by
  simp [decode, parseFrame, portParse, portEvent]

theorem decode_parseFrame_m609 (l : Level) (d : Duration) :
    decode (parseFrame .m609 l d) = .ok (instr609 l d) := by
  simp [decode, parseFrame, portParse, portEvent]

theorem decode_encode_row523 (c : Class523) (l : Level) (d : Duration)
    (h : (row523 c l d).wellFormed = true) :
    decode (encode (row523 c l d)) = .ok (row523 c l d) := by
  have hclass := classify523_eq_of_window523 ((row523_wellFormed_iff c l d).mp h)
  rw [encode_row523, decode_parseFrame_m523, instr523_eq_row523, hclass, row523_level523]

theorem decode_encode_row609 (c : Class609) (l : Level) (d : Duration)
    (h : (row609 c l d).wellFormed = true) :
    decode (encode (row609 c l d)) = .ok (row609 c l d) := by
  have hclass := classify609_eq_of_window609 ((row609_wellFormed_iff c l d).mp h)
  rw [encode_row609, decode_parseFrame_m609, instr609_eq_row609, hclass, row609_level609]

theorem decode_encode_event (l : Level) (d : Duration) :
    decode (encode (.event l d)) = .ok (.event l d) := by
  simp [decode, encode]

theorem decode_encode_start : decode (encode .start) = .ok .start := by
  simp [decode, encode, portStart, portEvent, portParse]

theorem decode_encode_clear (m : Model) : decode (encode (.clear m)) = .ok (.clear m) := by
  simp [decode, encode, portClear, portStart, portEvent, portParse]

theorem decode_encode_validate (dev : Device) (w : Cand) :
    decode (encode (.validate dev w)) = .ok (.validate dev w) := by
  simp [decode, encode, portValidate, portClear, portStart, portEvent, portParse]

theorem decode_encode_createPayload (dev : Device) (st : Byte) :
    decode (encode (.createPayload dev st)) = .ok (.createPayload dev st) := by
  simp [decode, encode, portCreatePayload, portValidate, portClear, portStart, portEvent, portParse]

/-! ### An instruction is a row of a model or one of five commands -/

/-- The 21 constructors by family: what holds of every row of each model, whatever its operands, and
of each command, holds of every instruction. -/
theorem Instr.by_family {motive : Instr → Prop}
    (m523 : ∀ c l d, motive (row523 c l d)) (m609 : ∀ c l d, motive (row609 c l d))
    (start : motive .start) (event : ∀ l d, motive (.event l d))
    (clear : ∀ m, motive (.clear m)) (validate : ∀ dev w, motive (.validate dev w))
    (createPayload : ∀ dev st, motive (.createPayload dev st)) (i : Instr) : motive i := by
  cases i with
  | m523Bit0Off d => exact m523 .bit0Off false d
  | m523Bit1Off d => exact m523 .bit1Off false d
  | m523BitstreamOff d => exact m523 .bitstreamOff false d
  | m523Bit1On d => exact m523 .bit1On true d
  | m523Bit0On d => exact m523 .bit0On true d
  | m523BitstreamOn d => exact m523 .bitstreamOn true d
  | m523ChunkEnd d => exact m523 .chunkEnd true d
  | m523Inv l d => exact m523 .inv l d
  | m609Off d => exact m609 .off false d
  | m609ChunkStart d => exact m609 .chunkStart true d
  | m609Bit0 d => exact m609 .bit0 true d
  | m609Bit1 d => exact m609 .bit1 true d
  | m609BitstreamStart d => exact m609 .bitstreamStart true d
  | m609BitstreamEnd d => exact m609 .bitstreamEnd true d
  | m609ChunkEnd d => exact m609 .chunkEnd true d
  | m609Inv l d => exact m609 .inv l d
  | start => exact start
  | event l d => exact event l d
  | clear m => exact clear m
  | validate dev w => exact validate dev w
  | createPayload dev st => exact createPayload dev st

/-- Settles O3: a row by the window of its class, a command by its port. -/
theorem decodeOfEncode : Obligations.DecodeOfEncode := by
  intro i hwf
  induction i using Instr.by_family with
  | m523 c l d => exact decode_encode_row523 c l d hwf
  | m609 c l d => exact decode_encode_row609 c l d hwf
  | start => exact decode_encode_start
  | event l d => exact decode_encode_event l d
  | clear m => exact decode_encode_clear m
  | validate dev w => exact decode_encode_validate dev w
  | createPayload dev st => exact decode_encode_createPayload dev st

/-! ### What decodes -/

/-- A frame whose three parts are known is built from them. -/
theorem mkFrame_eq_of_parts {f : Frame} {u p : Byte} {o : BitVec 64} (hunit : frameUnit f = u)
    (hport : framePort f = p) (hoperand : frameOperand f = o) : mkFrame u p o = f := by
  rw [← hunit, ← hport, ← hoperand, mkFrame_parts]

/-- Settles O4: port by port, the tests of the decoder say what the parts of the frame are. Only the
rows of the parse port have a condition to meet, which the classifier gives. -/
theorem encodeOfDecode : Obligations.EncodeOfDecode := by
  intro f i h
  unfold decode at h
  split_ifs at h with hevent hunit hparse hstart hunit hoperand hclear hoperand hvalidate hpayload
    hoperand
  case pos =>
    obtain ⟨l, d, hoperand, rfl⟩ := decodeEventOperand_ok _ _ _ h
    exact ⟨rfl, mkFrame_eq_of_parts hunit hevent hoperand⟩
  case pos =>
    split at h
    · next hunit =>
      obtain ⟨l, d, hoperand, rfl⟩ := decodeEventOperand_ok _ _ _ h
      exact ⟨instr523_wellFormed l d, (encode_instr523 l d).trans
        (mkFrame_eq_of_parts (modelUnit_of_unitModel _ _ hunit).symm hparse hoperand)⟩
    · next hunit =>
      obtain ⟨l, d, hoperand, rfl⟩ := decodeEventOperand_ok _ _ _ h
      exact ⟨instr609_wellFormed l d, (encode_instr609 l d).trans
        (mkFrame_eq_of_parts (modelUnit_of_unitModel _ _ hunit).symm hparse hoperand)⟩
    · cases h
  case pos =>
    cases h
    exact ⟨rfl, mkFrame_eq_of_parts hunit hstart hoperand⟩
  case pos =>
    split at h
    · next hunit =>
      cases h
      exact ⟨rfl, mkFrame_eq_of_parts (modelUnit_of_unitModel _ _ hunit).symm hclear hoperand⟩
    · cases h
  case neg => split at h <;> cases h
  case pos =>
    split at h
    · next hunit =>
      cases h
      exact ⟨rfl, mkFrame_eq_of_parts (deviceUnit_of_unitDevice _ _ hunit).symm hvalidate rfl⟩
    · cases h
  case pos =>
    split at h
    · next hunit =>
      cases h
      exact ⟨rfl, mkFrame_eq_of_parts (deviceUnit_of_unitDevice _ _ hunit).symm hpayload hoperand⟩
    · cases h
  case neg => split at h <;> cases h

/-- Settles O5: seven closed frames, run by the decoder. -/
theorem sampleWordsDecode : Obligations.SampleWordsDecode := by
  unfold Obligations.SampleWordsDecode
  decide

end Sys2Proof
end

section
/-!
The two framing machines as the dispatcher composes them (42_framing_523.md R161, 43_framing_609.md
R201) against their classes (R170 to R178, R210 to R217). `on523 c` is the rule of class `c`; the
composed transition does on every class what that rule says (`withLast523_transition523`), and
what follows about `parse_rf` goes through the rules of the classes.
-/

namespace Sys2Proof.Machine

/-! ### The procedures that write the flags (R162, R165, R202, R205) -/

/-- Settles O8: the bodies as the model has them. -/
theorem helperProcedures523 : Obligations.HelperProcedures523 := fun _ => ⟨rfl, rfl, rfl⟩

/-- Settles O9: the bodies as the model has them, the calls among them carried out. -/
theorem helperProcedures609 : Obligations.HelperProcedures609 := fun _ => ⟨rfl, rfl, rfl, rfl⟩

theorem exec_clear_m523 (s : State) :
    exec (.clear .m523) s = .next { s with f523 := clear523 s.f523, out := Output.empty } := rfl

theorem exec_clear_m609 (s : State) :
    exec (.clear .m609) s = .next { s with f609 := clear609 s.f609, out := Output.empty } := rfl

/-- Settles O42: `clear()` of each model, carried out. -/
theorem clearResult : Obligations.ClearResult := fun s => ⟨exec_clear_m523 s, exec_clear_m609 s⟩

theorem clear523_clear523 (f : Framing523) : clear523 (clear523 f) = clear523 f := rfl

/-- Settles O43: what `clear()` keeps, it keeps again. -/
theorem clearIsIdempotent : Obligations.ClearIsIdempotent := by
  intro s t m h
  cases m
  case m523 =>
    rw [exec_clear_m523] at h
    cases h
    rw [exec_clear_m523, clear523_clear523]
  case m609 =>
    rw [exec_clear_m609] at h
    cases h
    rw [exec_clear_m609, clear609_eq_reset, clear609_eq_reset]

/-! ### Model 00523, class by class -/

theorem exec_m523ChunkEnd (d : Duration) (s : State) :
    exec (.m523ChunkEnd d) s = .next (framed523 s .chunkEnd (onChunkEnd523 s.f523)) := rfl

theorem onChunkEnd523_closes (f : Framing523)
    (h : f.chunkOpen = true ∧ f.lastClass = .bit0Off) :
    onChunkEnd523 f =
      withLast523 (closeChunk523 f, if f.bitstreamSize.toNat = 48 then f.bitstream else 0#64)
        .chunkEnd := by
  rw [onChunkEnd523, if_pos h]

theorem onChunkEnd523_ignores (f : Framing523)
    (h : ¬ (f.chunkOpen = true ∧ f.lastClass = .bit0Off)) :
    onChunkEnd523 f = withLast523 (f, 0#64) .chunkEnd := by
  rw [onChunkEnd523, if_neg h]

/-- Settles O14: the two cases of R173. -/
theorem chunkEnd523Result : Obligations.ChunkEnd523Result := by
  intro s d closes next
  rw [exec_m523ChunkEnd]
  refine ⟨fun hcloses => ?closes, fun hnot => ?ignored⟩
  case closes => rw [onChunkEnd523_closes _ hcloses]; rfl
  case ignored => rw [onChunkEnd523_ignores _ hnot]; rfl

/-- The rule of each class of 00523 (R170 to R178). -/
def on523 : Class523 → Framing523 → Framing523 × Cand
  | .bit0Off => onBit0Off523
  | .bit1Off => onBit1Off523
  | .bitstreamOff => onBitstreamOff523
  | .bit1On => onBit1On523
  | .bit0On => onBit0On523
  | .bitstreamOn => onBitstreamOn523
  | .chunkEnd => onChunkEnd523
  | .inv => onInv523

/-- A row of 00523 is the rule of its class. -/
theorem exec_row523 (c : Class523) (l : Level) (d : Duration) (s : State) :
    exec (row523 c l d) s = .next (framed523 s c (on523 c s.f523)) := by
  cases c <;> rfl

/-- On a class that no clause of R161 names, the transition is the "any other class" arm (R178). -/
theorem transition523_of_other (f : Framing523) {c : Class523}
    (h : c = .bit0Off ∨ c = .bit1Off ∨ c = .bitstreamOff ∨ c = .inv) :
    transition523 f c = (otherClass523 f, 0#64) := by
  unfold transition523 otherClass523
  obtain rfl | rfl | rfl | rfl := h <;> simp <;> split_ifs <;> rfl

/-- R161 against R170 to R178. -/
theorem withLast523_transition523 (f : Framing523) (c : Class523) :
    withLast523 (transition523 f c) c = on523 c f := by
  cases c
  case bit0Off => rw [transition523_of_other f (by simp)]; rfl
  case bit1Off => rw [transition523_of_other f (by simp)]; rfl
  case bitstreamOff => rw [transition523_of_other f (by simp)]; rfl
  case inv => rw [transition523_of_other f (by simp)]; rfl
  case bitstreamOn =>
    simp only [on523, onBitstreamOn523, transition523, otherClass523]
    split_ifs <;> simp_all
  case bit0On =>
    simp only [on523, onBit0On523, transition523]
    split_ifs <;> simp_all
  case bit1On =>
    simp only [on523, onBit1On523, transition523]
    split_ifs <;> simp_all
  case chunkEnd =>
    simp only [on523, onChunkEnd523, transition523]
    split_ifs <;> simp_all

theorem parseRf523_eq (f : Framing523) (l : Level) (d : Duration) :
    parseRf523 f l d = on523 (classify523 l d) f :=
  withLast523_transition523 f _

/-- Settles O19. -/
theorem parseRf523AgreesWithItsRows : Obligations.ParseRf523AgreesWithItsRows := by
  intro s l d
  rw [instr523_eq_row523, exec_row523, parseRf523_eq]

/-! ### Model 00609, class by class -/

/-- The rule of each class of 00609 (R210 to R217). -/
def on609 : Class609 → Framing609 → Framing609 × Cand
  | .off => onOff609
  | .chunkStart => onChunkStart609
  | .bit0 => onBit0609
  | .bit1 => onBit1609
  | .bitstreamStart => onBitstreamStart609
  | .bitstreamEnd => onBitstreamEnd609
  | .chunkEnd => onChunkEnd609
  | .inv => onInv609

/-- A row of 00609 is the rule of its class. -/
theorem exec_row609 (c : Class609) (l : Level) (d : Duration) (s : State) :
    exec (row609 c l d) s = .next (framed609 s c (on609 c s.f609)) := by
  cases c <;> rfl

/-- Only `OFF` arms the gate (R203): after any other class the transition does nothing. -/
theorem transition609_of_not_armed (f : Framing609) (c : Class609) (h : f.lastClass ≠ .off) :
    transition609 f c = (f, 0#64) := by
  rw [transition609, if_neg h]

/-- On a class that no clause of R201 names, the transition does nothing. -/
theorem transition609_of_other (f : Framing609) {c : Class609}
    (h : c = .off ∨ c = .chunkStart ∨ c = .inv) : transition609 f c = (f, 0#64) := by
  unfold transition609
  obtain rfl | rfl | rfl := h <;> simp

/-- R201 against R210 to R217. -/
theorem withLast609_transition609 (f : Framing609) (c : Class609) :
    withLast609 (transition609 f c) c = on609 c f := by
  cases c
  case off => rw [transition609_of_other f (by simp)]; rfl
  case chunkStart => rw [transition609_of_other f (by simp)]; rfl
  case inv => rw [transition609_of_other f (by simp)]; rfl
  case bit0 =>
    simp only [on609, onBit0609, transition609, takesBit609_iff]
    split_ifs <;> simp_all
  case bit1 =>
    simp only [on609, onBit1609, transition609, takesBit609_iff]
    split_ifs <;> simp_all
  case bitstreamStart =>
    simp only [on609, onBitstreamStart609, transition609]
    split_ifs <;> simp_all
  case bitstreamEnd =>
    simp only [on609, onBitstreamEnd609, transition609]
    split_ifs <;> simp_all
  case chunkEnd =>
    simp only [on609, onChunkEnd609, transition609]
    split_ifs <;> simp_all

theorem parseRf609_eq (f : Framing609) (l : Level) (d : Duration) :
    parseRf609 f l d = on609 (classify609 l d) f :=
  withLast609_transition609 f _

/-- Settles O20. -/
theorem parseRf609AgreesWithItsRows : Obligations.ParseRf609AgreesWithItsRows := by
  intro s l d
  rw [instr609_eq_row609, exec_row609, parseRf609_eq]

/-! ### What a step of one model reads (10_state.md R42, R46) -/

/-- Settles O21: a row leaves `framed523` or `framed609` of one record, which take nothing else from
the state. -/
theorem framingDependsOnItsOwnRecord : Obligations.FramingDependsOnItsOwnRecord := by
  intro s s' t t' l d
  refine ⟨fun hsame h h' => ?m523, fun hsame h h' => ?m609⟩
  case m523 =>
    rw [parseRf523AgreesWithItsRows] at h h'
    cases h
    cases h'
    rw [hsame]
    exact ⟨rfl, rfl, rfl, rfl, rfl, rfl⟩
  case m609 =>
    rw [parseRf609AgreesWithItsRows] at h h'
    cases h
    cases h'
    rw [hsame]
    exact ⟨rfl, rfl, rfl, rfl, rfl, rfl⟩

/-- After a class that gates nothing, R161 can only count a `BITSTREAM_ON` with no chunk open. -/
theorem transition523_of_ungated (f : Framing523) (c : Class523)
    (h : gates523 f.lastClass = false) :
    transition523 f c =
      (if c = .bitstreamOn ∧ f.chunkOpen = false then countOpener523 f else f, 0#64) := by
  have not_gate (g : Class523) (hg : gates523 g = true) : f.lastClass ≠ g := by
    rintro rfl
    exact Bool.false_ne_true (h.symm.trans hg)
  simp only [transition523, not_gate .bit0Off rfl, not_gate .bit1Off rfl,
    not_gate .bitstreamOff rfl, false_or, and_false, if_false]
  split_ifs <;> rfl

/-- Counting a pulse neither reads nor writes `last_class`. -/
theorem countOpener523_withLast (f : Framing523) (c : Class523) :
    countOpener523 { f with lastClass := c } = { countOpener523 f with lastClass := c } := by
  cases hopen : f.chunkOpen <;> simp only [countOpener523, bumpOpener523, hopen] <;>
    split_ifs <;> rfl

/-- After a class that gates nothing, the step of an event is the same whichever class it was. -/
theorem parseRf523_of_ungated (f : Framing523) (c : Class523) (l : Level) (d : Duration)
    (h : gates523 c = false) :
    parseRf523 { f with lastClass := c } l d =
      ({ (if classify523 l d = .bitstreamOn ∧ f.chunkOpen = false then countOpener523 f else f) with
          lastClass := classify523 l d }, 0#64) := by
  rw [parseRf523, transition523_of_ungated _ _ h, withLast523]
  split_ifs
  · rw [countOpener523_withLast]
  · rfl

theorem parseRf609_of_ungated (f : Framing609) (c : Class609) (l : Level) (d : Duration)
    (h : gates609 c = false) :
    parseRf609 { f with lastClass := c } l d =
      ({ f with lastClass := classify609 l d }, 0#64) := by
  have hc : c ≠ .off := by rintro rfl; cases h
  rw [parseRf609, transition609_of_not_armed _ _ hc]
  rfl

/-- Settles O22: both sides are the step after an ungated class, which does not name the class. -/
theorem ungatedLastClassesAreEquivalent : Obligations.UngatedLastClassesAreEquivalent := by
  refine ⟨fun f c c' l d h h' => ?m523, fun f c c' l d h h' => ?m609⟩
  case m523 => rw [parseRf523_of_ungated f c l d h, parseRf523_of_ungated f c' l d h']
  case m609 => rw [parseRf609_of_ungated f c l d h, parseRf609_of_ungated f c' l d h']

/-! ### With no chunk open (R183; R182, R222) -/

theorem transition523_of_no_chunk (f : Framing523) {c : Class523} (hclosed : f.chunkOpen = false)
    (hc : c ≠ .bitstreamOn) : transition523 f c = (f, 0#64) := by
  simp [transition523, hclosed, hc]

/-- Settles O25: every other clause of R161 asks for an open chunk. -/
theorem openerCountPersistsWithoutChunk : Obligations.OpenerCountPersistsWithoutChunk := by
  intro f l d hclosed hc
  rw [parseRf523, transition523_of_no_chunk f hclosed hc]
  rfl

/-- An `INV` of 00609 only writes `last_class` (R217). -/
theorem parseRf609_of_inv (f : Framing609) {l : Level} {d : Duration}
    (h : classify609 l d = .inv) : parseRf609 f l d = ({ f with lastClass := .inv }, 0#64) := by
  rw [parseRf609_eq, h]
  rfl

theorem feed523_inv (evs : List Event) (f : Framing523) (hclosed : f.chunkOpen = false)
    (hinv : ∀ e ∈ evs, classify523 e.level e.duration = .inv) :
    (feed523 evs f).1.chunkOpen = false ∧ ∀ c ∈ (feed523 evs f).2, c = 0#64 := by
  induction evs generalizing f with
  | nil => exact ⟨hclosed, by simp [feed523]⟩
  | cons e rest ih =>
    have he : classify523 e.level e.duration = .inv := hinv e List.mem_cons_self
    have hstep := openerCountPersistsWithoutChunk f e.level e.duration hclosed (by rw [he]; decide)
    obtain ⟨hchunk, hcands⟩ := ih { f with lastClass := classify523 e.level e.duration } hclosed
      fun e' h => hinv e' (List.mem_cons_of_mem _ h)
    rw [feed523, hstep]
    exact ⟨hchunk, List.forall_mem_cons.mpr ⟨rfl, hcands⟩⟩

theorem feed609_inv (evs : List Event) (f : Framing609) (hclosed : f.chunkOpen = false)
    (hinv : ∀ e ∈ evs, classify609 e.level e.duration = .inv) :
    (feed609 evs f).1.chunkOpen = false ∧ ∀ c ∈ (feed609 evs f).2, c = 0#64 := by
  induction evs generalizing f with
  | nil => exact ⟨hclosed, by simp [feed609]⟩
  | cons e rest ih =>
    have hstep := parseRf609_of_inv f (hinv e List.mem_cons_self)
    obtain ⟨hchunk, hcands⟩ := ih { f with lastClass := .inv } hclosed
      fun e' h => hinv e' (List.mem_cons_of_mem _ h)
    rw [feed609, hstep]
    exact ⟨hchunk, List.forall_mem_cons.mpr ⟨rfl, hcands⟩⟩

/-- Settles O26: by induction on the stream, whose every event only writes `last_class`. -/
theorem invStreamsEmitNothing : Obligations.InvStreamsEmitNothing := ⟨feed523_inv, feed609_inv⟩

end Sys2Proof.Machine
end

section
/-!
The invariant of the framing records (10_state.md R34) under the operations of the two machines.
What the composed transitions can do is said once (`transition523_cases`, `transition609_cases`);
for each operation there named, one lemma that it keeps the invariant, and from these that a step
does, with a candidate no longer than the model's block (30_encoding.md R97).
-/

namespace Sys2Proof.Machine

/-! ### Bits of a buffer -/

/-- A buffer whose 1 bits all lie below position `n` is a number of `n` bits. -/
theorem toNat_lt_of_bits {b : BitVec 64} {n : Nat} (h : ∀ i, b.getLsbD i = true → i < n) :
    b.toNat < 2 ^ n :=
  Nat.lt_pow_two_of_testBit _ fun i hi =>
    Bool.eq_false_iff.mpr fun hbit => absurd (h i hbit) (Nat.not_lt.mpr hi)

/-- The bits after one more bit is stored at position `k`, or left as the 0 it is. -/
theorem getLsbD_stored (b : BitVec 64) (bit : Bool) {k : Nat} (hk : k < 64) (i : Nat) :
    (if bit then b ||| (1#64 <<< k) else b).getLsbD i =
      (b.getLsbD i || (bit && decide (i = k))) := by
  cases bit
  case false => simp
  case true =>
    have bit_of_one : (1#64 <<< k).getLsbD i = decide (i = k) := by
      rw [BitVec.getLsbD_shiftLeft, BitVec.getLsbD_one, Bool.eq_iff_iff]
      simp only [Bool.and_eq_true, Bool.not_eq_true', decide_eq_true_eq, decide_eq_false_iff_not]
      omega
    simp [bit_of_one]

/-- Storing a bit just below the 1 bits of a buffer. -/
theorem bits_of_stored {b : BitVec 64} (bit : Bool) {k n : Nat} (hk : k < n) (hn : n ≤ 64)
    (h : ∀ i, b.getLsbD i = true → k < i ∧ i < n) :
    ∀ i, (if bit then b ||| (1#64 <<< k) else b).getLsbD i = true → k ≤ i ∧ i < n := by
  intro i hi
  rw [getLsbD_stored b bit (by omega), Bool.or_eq_true, Bool.and_eq_true, decide_eq_true_eq] at hi
  obtain hold | ⟨-, rfl⟩ := hi
  · exact ⟨(h i hold).1.le, (h i hold).2⟩
  · exact ⟨le_rfl, hk⟩

theorem bits_of_zero (lo hi : Nat) : ∀ i, (0#64).getLsbD i = true → lo ≤ i ∧ i < hi := by
  simp

/-! ### Model 00523 -/

/-- All that the transition of 00523 can do (R161): nothing; count a pulse, or drop the count; store
a bit; emit a buffer that is full already; close the chunk. -/
theorem transition523_cases (f : Framing523) (c : Class523) :
    transition523 f c = (f, 0#64) ∨
    transition523 f c = (countOpener523 f, 0#64) ∨
    transition523 f c = ({ f with bitstreamOpenerCount := 0#8 }, 0#64) ∨
    (f.bitstreamSize.toNat < 48 ∧ ∃ bit, transition523 f c = storeBit523 f bit) ∨
    (f.bitstreamSize.toNat = 48 ∧ transition523 f c = (closeBitstream523 f, f.bitstream)) ∨
    transition523 f c =
      (closeChunk523 f, if f.bitstreamSize.toNat = 48 then f.bitstream else 0#64) := by
  unfold transition523
  split_ifs <;> simp_all

theorem Framing523.Inv.size_ne {f : Framing523} (h : f.Inv) : f.bitstreamSize.toNat ≠ 48 :=
  Nat.ne_of_lt (Nat.lt_succ_of_le h.size)

theorem Framing523.Inv.withLast {f : Framing523} (h : f.Inv) (c : Class523) :
    Framing523.Inv { f with lastClass := c } :=
  ⟨h.size, h.unreceived, h.nested, h.openers⟩

theorem Framing523.Inv.resetOpeners {f : Framing523} (h : f.Inv) :
    Framing523.Inv { f with bitstreamOpenerCount := 0#8 } :=
  ⟨h.size, h.unreceived, h.nested, Nat.zero_le 3⟩

theorem Framing523.Inv.openChunk523 {f : Framing523} (h : f.Inv) : (openChunk523 f).Inv :=
  ⟨Nat.zero_le 47, bits_of_zero _ _, fun _ => rfl, h.openers⟩

theorem Framing523.Inv.closeBitstream523 {f : Framing523} (h : f.Inv) :
    (closeBitstream523 f).Inv :=
  ⟨Nat.zero_le 47, bits_of_zero _ _, nofun, h.openers⟩

theorem closeChunk523_inv (f : Framing523) : (closeChunk523 f).Inv :=
  ⟨Nat.zero_le 47, bits_of_zero _ _, nofun, Nat.zero_le 3⟩

theorem clear523_inv (f : Framing523) : (clear523 f).Inv :=
  ⟨Nat.zero_le 47, bits_of_zero _ _, nofun, Nat.zero_le 3⟩

/-- The opener count returns to 0 before it is 4. -/
theorem Framing523.Inv.countOpener523 {f : Framing523} (h : f.Inv) : (countOpener523 f).Inv := by
  have hcount := h.openers
  by_cases h3 : f.bitstreamOpenerCount.toNat = 3
  case pos =>
    rw [countOpener523_fourth f (BitVec.eq_of_toNat_eq h3)]
    split_ifs
    · exact h.resetOpeners
    · exact h.resetOpeners.openChunk523
  case neg =>
    rw [countOpener523_counts f (by omega) h3]
    refine ⟨h.size, h.unreceived, h.nested, ?_⟩
    rw [size_succ _ (by omega)]
    omega

/-- A stored bit stands just below the bits received before it; with the 48th the buffer is handed
out, its 1 bits all below position 48. -/
theorem Framing523.Inv.storeBit523 {f : Framing523} (h : f.Inv) (bit : Bool) :
    (storeBit523 f bit).1.Inv ∧ (storeBit523 f bit).2.toNat < 2 ^ 48 := by
  have hsize := h.size
  have hbits := bits_of_stored bit (k := 47 - f.bitstreamSize.toNat) (n := 48) (by omega) (by omega)
    fun i hi => by have := h.unreceived i hi; omega
  by_cases hlast : f.bitstreamSize.toNat + 1 = 48
  case pos =>
    rw [storeBit523_emits f bit hlast]
    exact ⟨h.closeBitstream523, toNat_lt_of_bits fun i hi => (hbits i hi).2⟩
  case neg =>
    rw [storeBit523_grows f bit (by omega)]
    refine ⟨⟨?size, fun i hi => ?unreceived, h.nested, h.openers⟩, Nat.two_pow_pos 48⟩
    case size => rw [size_succ _ (by omega)]; omega
    case unreceived =>
      have := hbits i hi
      rw [size_succ _ (by omega)]
      omega

/-- The transition keeps the invariant and returns at most 48 bits. -/
theorem Framing523.Inv.transition523 {f : Framing523} (h : f.Inv) (c : Class523) :
    (transition523 f c).1.Inv ∧ (transition523 f c).2.toNat < 2 ^ 48 := by
  obtain e | e | e | ⟨-, bit, e⟩ | ⟨hfull, -⟩ | e := transition523_cases f c
  · rw [e]; exact ⟨h, Nat.two_pow_pos 48⟩
  · rw [e]; exact ⟨h.countOpener523, Nat.two_pow_pos 48⟩
  · rw [e]; exact ⟨h.resetOpeners, Nat.two_pow_pos 48⟩
  · rw [e]; exact h.storeBit523 bit
  · exact absurd hfull h.size_ne
  · rw [e, if_neg h.size_ne]; exact ⟨closeChunk523_inv f, Nat.two_pow_pos 48⟩

theorem Framing523.Inv.on523 {f : Framing523} (h : f.Inv) (c : Class523) : (on523 c f).1.Inv := by
  rw [← withLast523_transition523]
  exact (h.transition523 c).1.withLast c

theorem Framing523.Inv.parseRf523 {f : Framing523} (h : f.Inv) (l : Level) (d : Duration) :
    (parseRf523 f l d).1.Inv ∧ (parseRf523 f l d).2.toNat < 2 ^ 48 :=
  ⟨(h.transition523 _).1.withLast _, (h.transition523 _).2⟩

/-! ### Model 00609 -/

/-- All that the transition of 00609 can do (R201): nothing; open the chunk, or a bitstream in it;
close the bitstream, or the chunk; store a bit of an open bitstream. -/
theorem transition609_cases (f : Framing609) (c : Class609) :
    transition609 f c = (f, 0#64) ∨
    transition609 f c = (openChunk609 f, 0#64) ∨
    (f.chunkOpen = true ∧ transition609 f c = (openBitstream609 f, emitIfFull609 f)) ∨
    transition609 f c = (closeBitstream609 f, emitIfFull609 f) ∨
    transition609 f c = (closeChunk609 f, emitIfFull609 f) ∨
    (f.bitstreamOpen = true ∧ ∃ bit, transition609 f c = storeBit609 f bit) := by
  unfold transition609
  split_ifs <;> simp_all

/-- A buffer at rest is never full (R220). -/
theorem Framing609.Inv.emitIfFull609 {f : Framing609} (h : f.Inv) : emitIfFull609 f = 0#64 :=
  if_neg (Nat.ne_of_lt (Nat.lt_succ_of_le h.size))

theorem Framing609.Inv.withLast {f : Framing609} (h : f.Inv) (c : Class609) :
    Framing609.Inv { f with lastClass := c } :=
  ⟨h.size, h.unreceived, h.nested, h.closed⟩

theorem openChunk609_inv (f : Framing609) : (openChunk609 f).Inv :=
  ⟨Nat.zero_le 39, bits_of_zero _ _, fun _ => rfl, nofun⟩

theorem openBitstream609_inv {f : Framing609} (hopen : f.chunkOpen = true) :
    (openBitstream609 f).Inv :=
  ⟨Nat.zero_le 39, bits_of_zero _ _, fun _ => hopen, nofun⟩

theorem closeBitstream609_inv (f : Framing609) : (closeBitstream609 f).Inv :=
  ⟨Nat.zero_le 39, bits_of_zero _ _, nofun, fun _ => ⟨rfl, rfl⟩⟩

theorem closeChunk609_inv (f : Framing609) : (closeChunk609 f).Inv :=
  closeBitstream609_inv { f with chunkOpen := false }

theorem framing609_reset_inv : Framing609.reset.Inv :=
  ⟨Nat.zero_le 39, bits_of_zero _ _, nofun, fun _ => ⟨rfl, rfl⟩⟩

/-- As for 00523; the bitstream is open, so that "closed and empty" is not asked of the record that
the bit leaves. -/
theorem Framing609.Inv.storeBit609 {f : Framing609} (h : f.Inv) (hopen : f.bitstreamOpen = true)
    (bit : Bool) : (storeBit609 f bit).1.Inv ∧ (storeBit609 f bit).2.toNat < 2 ^ 40 := by
  have hsize := h.size
  have hbits := bits_of_stored bit (k := 39 - f.bitstreamSize.toNat) (n := 40) (by omega) (by omega)
    fun i hi => by have := h.unreceived i hi; omega
  by_cases hlast : f.bitstreamSize.toNat + 1 = 40
  case pos =>
    rw [storeBit609_emits f bit hlast]
    exact ⟨closeBitstream609_inv f, toNat_lt_of_bits fun i hi => (hbits i hi).2⟩
  case neg =>
    rw [storeBit609_grows f bit (by omega)]
    refine ⟨⟨?size, fun i hi => ?unreceived, h.nested, fun hclosed => ?closed⟩, Nat.two_pow_pos 40⟩
    case size => rw [size_succ _ (by omega)]; omega
    case unreceived =>
      have := hbits i hi
      rw [size_succ _ (by omega)]
      omega
    case closed => exact absurd hopen (Bool.eq_false_iff.mp hclosed)

/-- The transition keeps the invariant and returns at most 40 bits. -/
theorem Framing609.Inv.transition609 {f : Framing609} (h : f.Inv) (c : Class609) :
    (transition609 f c).1.Inv ∧ (transition609 f c).2.toNat < 2 ^ 40 := by
  obtain e | e | ⟨hopen, e⟩ | e | e | ⟨hopen, bit, e⟩ := transition609_cases f c
  · rw [e]; exact ⟨h, Nat.two_pow_pos 40⟩
  · rw [e]; exact ⟨openChunk609_inv f, Nat.two_pow_pos 40⟩
  · rw [e, h.emitIfFull609]; exact ⟨openBitstream609_inv hopen, Nat.two_pow_pos 40⟩
  · rw [e, h.emitIfFull609]; exact ⟨closeBitstream609_inv f, Nat.two_pow_pos 40⟩
  · rw [e, h.emitIfFull609]; exact ⟨closeChunk609_inv f, Nat.two_pow_pos 40⟩
  · rw [e]; exact h.storeBit609 hopen bit

theorem Framing609.Inv.on609 {f : Framing609} (h : f.Inv) (c : Class609) : (on609 c f).1.Inv := by
  rw [← withLast609_transition609]
  exact (h.transition609 c).1.withLast c

theorem Framing609.Inv.parseRf609 {f : Framing609} (h : f.Inv) (l : Level) (d : Duration) :
    (parseRf609 f l d).1.Inv ∧ (parseRf609 f l d).2.toNat < 2 ^ 40 :=
  ⟨(h.transition609 _).1.withLast _, (h.transition609 _).2⟩

/-! ### The arms that emit a full buffer (R180, R220) -/

theorem Framing523.Inv.onChunkEnd523_snd {f : Framing523} (h : f.Inv) :
    (onChunkEnd523 f).2 = 0#64 := by
  by_cases hcloses : f.chunkOpen = true ∧ f.lastClass = .bit0Off
  · rw [onChunkEnd523_closes f hcloses, if_neg h.size_ne]; rfl
  · rw [onChunkEnd523_ignores f hcloses]; rfl

theorem Framing523.Inv.onBit1On523_snd {f : Framing523} (h : f.Inv)
    (hlast : f.lastClass = .bit0Off) : (onBit1On523 f).2 = 0#64 := by
  rw [onBit1On523_ignores f (fun ht => absurd (hlast.symm.trans ht.2.1) (by decide))
    fun hf => h.size_ne hf.2.2]
  rfl

theorem Framing609.Inv.onBitstreamStart609_snd {f : Framing609} (h : f.Inv) :
    (onBitstreamStart609 f).2 = 0#64 := by
  unfold onBitstreamStart609
  split_ifs
  · rfl
  · exact h.emitIfFull609
  · rfl

theorem Framing609.Inv.onBitstreamEnd609_snd {f : Framing609} (h : f.Inv) :
    (onBitstreamEnd609 f).2 = 0#64 := by
  unfold onBitstreamEnd609
  split_ifs
  · exact h.emitIfFull609
  · rfl

theorem Framing609.Inv.onChunkEnd609_snd {f : Framing609} (h : f.Inv) :
    (onChunkEnd609 f).2 = 0#64 := by
  unfold onChunkEnd609
  split_ifs
  · exact h.emitIfFull609
  · rfl

/-- Settles O23: arm by arm, a size at rest being below the model's length. -/
theorem ifFullArmsAreDead : Obligations.IfFullArmsAreDead := by
  intro s t d hinv
  refine ⟨fun h => ?chunkEnd523, fun hlast h => ?bit1On523, fun h => ?bitstreamStart609,
    fun h => ?bitstreamEnd609, fun h => ?chunkEnd609⟩
  case chunkEnd523 =>
    rw [exec_m523ChunkEnd] at h
    cases h
    exact hinv.f523.onChunkEnd523_snd
  case bit1On523 =>
    rw [exec_m523Bit1On] at h
    cases h
    exact hinv.f523.onBit1On523_snd hlast
  case bitstreamStart609 =>
    rw [exec_m609BitstreamStart] at h
    cases h
    exact hinv.f609.onBitstreamStart609_snd
  case bitstreamEnd609 =>
    rw [exec_m609BitstreamEnd] at h
    cases h
    exact hinv.f609.onBitstreamEnd609_snd
  case chunkEnd609 =>
    rw [exec_m609ChunkEnd] at h
    cases h
    exact hinv.f609.onChunkEnd609_snd

end Sys2Proof.Machine
end

section
/-!
The device records. What a validator reads of its candidate (92_eei_decisions.md D21), what it keeps
of its record, and that an accepted word leaves legal values (44_validator_523.md R243,
45_validator_609.md R263); then the battery and temperature bytes of the Payload, by `floorDiv`
(49_arithmetic.md section 1).
-/

namespace Sys2Proof.Machine

/-! ### A validator reads the low bits of its candidate (D21) -/

theorem getLsbD_congr {w w' : Cand} {n : Nat} (h : w.setWidth n = w'.setWidth n) {i : Nat}
    (hi : i < n) : w.getLsbD i = w'.getLsbD i := by
  have := congrArg (fun v => v.getLsbD i) h
  simpa [hi] using this

/-- Candidates with the same `n` low bits have the same fields in them. -/
theorem field_congr {w w' : Cand} {n : Nat} (h : w.setWidth n = w'.setWidth n) {lo k : Nat}
    (hk : lo + k ≤ n) : field w lo k = field w' lo k := by
  ext i hi
  simpa [field, hi] using getLsbD_congr h (i := lo + i) (by omega)

theorem laneSum_congr {w w' : Cand} {n : Nat} (h : w.setWidth n = w'.setWidth n) {lanes : List Nat}
    (hlanes : ∀ k ∈ lanes, 8 * k + 8 ≤ n) : laneSum w lanes = laneSum w' lanes := by
  have lane_eq : ∀ k ∈ lanes, (lane w k).toNat = (lane w' k).toNat := fun k hk =>
    congrArg BitVec.toNat (field_congr h (hlanes k hk))
  rw [laneSum, laneSum, List.map_congr_left lane_eq]

theorem validate523_congr (r : DeviceRecord) {w w' : Cand} (h : w.setWidth 48 = w'.setWidth 48) :
    validate523 r w = validate523 r w' := by
  have word_eq : c523Word w = c523Word w' := field_congr h (by decide)
  have signature_eq : c523Signature w = c523Signature w' := field_congr h (by decide)
  have battery_eq : c523Battery w = c523Battery w' := field_congr h (by decide)
  have parity2_eq : c523Parity2 w = c523Parity2 w' := field_congr h (by decide)
  have byte2_eq : c523Byte2 w = c523Byte2 w' := field_congr h (by decide)
  have parity1_eq : c523Parity1 w = c523Parity1 w' := field_congr h (by decide)
  have byte1_eq : c523Byte1 w = c523Byte1 w' := field_congr h (by decide)
  have checksum_eq : c523Checksum w = c523Checksum w' := field_congr h (by decide)
  have sum_eq : laneSum w [5, 4, 3, 2, 1] = laneSum w' [5, 4, 3, 2, 1] :=
    laneSum_congr h (by decide)
  have temp_eq : c523Temp w = c523Temp w' := by
    rw [c523Temp, c523Temp, c523Raw, c523Raw, byte1_eq, byte2_eq]
  have check_eq : check523 r w = check523 r w' := by
    rw [check523, check523, word_eq, signature_eq, sum_eq, checksum_eq, byte1_eq, parity1_eq,
      byte2_eq, parity2_eq, temp_eq]
  rw [validate523_eq, validate523_eq, check_eq, latch523, latch523, battery_eq, temp_eq]

theorem validate609_congr (r : DeviceRecord) {w w' : Cand} (h : w.setWidth 40 = w'.setWidth 40) :
    validate609 r w = validate609 r w' := by
  have word_eq : c609Word w = c609Word w' := field_congr h (by decide)
  have signature_eq : c609Signature w = c609Signature w' := field_congr h (by decide)
  have battery_eq : c609Battery w = c609Battery w' := field_congr h (by decide)
  have channel_eq : c609Channel w = c609Channel w' := field_congr h (by decide)
  have temp13_eq : c609Temp13 w = c609Temp13 w' := field_congr h (by decide)
  have hum_eq : c609Hum w = c609Hum w' := field_congr h (by decide)
  have checksum_eq : c609Checksum w = c609Checksum w' := field_congr h (by decide)
  have sum_eq : laneSum w [4, 3, 2, 1] = laneSum w' [4, 3, 2, 1] := laneSum_congr h (by decide)
  have temp_eq : c609Temp w = c609Temp w' := by
    rw [c609Temp, c609Temp, getLsbD_congr h (by decide), temp13_eq]
  have check_eq : check609 r w = check609 r w' := by
    rw [check609, check609, word_eq, signature_eq, channel_eq, sum_eq, checksum_eq, hum_eq, temp_eq]
  rw [validate609_eq, validate609_eq, check_eq, latch609, latch609, signature_eq, battery_eq,
    hum_eq, temp_eq]

/-- Settles O32: every field that a check or a latch reads lies in the low bits. -/
theorem validatorsReadOnlyTheLowBits : Obligations.ValidatorsReadOnlyTheLowBits := by
  intro r w w'
  refine ⟨fun h dev hdev => ?m523, fun h => ?m609⟩
  case m523 =>
    rw [runValidator_of_523 hdev, runValidator_of_523 hdev]
    exact validate523_congr r h
  case m609 => exact validate609_congr r h

/-! ### What an acceptance says and leaves -/

theorem check523_of_accepts {r : DeviceRecord} {w : Cand}
    (h : (validate523 r w).1 = .accept) : check523 r w = .accept := by
  rwa [validate523_eq] at h

/-- Settles O33: an accepted word carries the signature of its device, and the two differ. -/
theorem atMostOneDevice523Accepts : Obligations.AtMostOneDevice523Accepts := by
  rintro s w hinv ⟨hfreezer, hfridge⟩
  obtain ⟨-, hsigFreezer, -⟩ := check523_accept _ _ (check523_of_accepts hfreezer)
  obtain ⟨-, hsigFridge, -⟩ := check523_accept _ _ (check523_of_accepts hfridge)
  have hsame : Config.sigFreezer = Config.sigFridge :=
    calc Config.sigFreezer = s.freezer.signature := hinv.freezer.signature.symm
      _ = c523Signature w := hsigFreezer.symm
      _ = s.fridge.signature := hsigFridge
      _ = Config.sigFridge := hinv.fridge.signature
  exact absurd hsame (by decide)

/-- A 16-bit register holds any temperature numerator that is accepted. -/
theorem toInt_ofInt_16 {t : Int} (hlo : -32768 ≤ t) (hhi : t < 32768) :
    (BitVec.ofInt 16 t).toInt = t :=
  BitVec.toInt_ofInt_eq_self (by decide) hlo hhi

/-- A field in a wider register is below the power of two of its own width. -/
theorem toNat_setWidth_lt {n : Nat} (v : BitVec n) (m : Nat) : (v.setWidth m).toNat < 2 ^ n := by
  rw [BitVec.toNat_setWidth]
  exact (Nat.mod_le _ _).trans_lt v.isLt

theorem latch523_inv {r : DeviceRecord} {dev : Device} {sig : BitVec 16} {w : Cand}
    (h : r.Inv523 dev sig) (haccept : check523 r w = .accept) :
    (latch523 r w).Inv523 dev sig := by
  obtain ⟨-, -, -, -, -, hlo, hhi⟩ := check523_accept r w haccept
  refine ⟨h.deviceId, h.modelId, h.signature, Nat.le_of_lt_succ (toNat_setWidth_lt _ _), ?_,
    h.humidity⟩
  change -720 ≤ (BitVec.ofInt 16 (c523Temp w)).toInt ∧ (BitVec.ofInt 16 (c523Temp w)).toInt ≤ 1259
  rw [toInt_ofInt_16 (by omega) (by omega)]
  omega

/-- The signature latched is one of 8 bits (R252). -/
theorem latch609_inv {r : DeviceRecord} {w : Cand} (h : r.Inv609)
    (haccept : check609 r w = .accept) : (latch609 r w).Inv609 := by
  obtain ⟨-, -, -, -, -, hhum, hlo, hhi⟩ := check609_accept r w haccept
  refine ⟨h.deviceId, h.modelId, ?signature, Nat.le_of_lt_succ (toNat_setWidth_lt _ _), ?temp,
    ?humidity⟩
  case signature =>
    unfold latch609
    dsimp only
    split_ifs
    · exact Nat.le_of_lt_succ (toNat_setWidth_lt _ _)
    · exact h.signature
  case temp =>
    change -800 ≤ (BitVec.ofInt 16 (c609Temp w)).toInt ∧
      (BitVec.ofInt 16 (c609Temp w)).toInt ≤ 1400
    rw [toInt_ofInt_16 (by omega) (by omega)]
    exact ⟨hlo, hhi⟩
  case humidity =>
    change ((c609Hum w).setWidth 8).toNat ≤ 99
    rwa [BitVec.toNat_setWidth_of_le (by decide)]

/-! ### What a validator call keeps of its record -/

/-- All that a validator call can leave: the record as it was, or its model's latches after an
acceptance. -/
theorem runValidator_snd_cases (dev : Device) (r : DeviceRecord) (w : Cand) :
    (runValidator dev r w).2 = r ∨
    (Config.deviceModel dev = .m523 ∧ check523 r w = .accept ∧
      (runValidator dev r w).2 = latch523 r w) ∨
    (Config.deviceModel dev = .m609 ∧ check609 r w = .accept ∧
      (runValidator dev r w).2 = latch609 r w) := by
  unfold runValidator
  split
  · next hmodel =>
    obtain ⟨_, -, e⟩ | ⟨haccept, e⟩ := validate523_cases r w
    · exact .inl (by rw [e])
    · exact .inr (.inl ⟨hmodel, haccept, by rw [e]⟩)
  · next hmodel =>
    obtain ⟨_, -, e⟩ | ⟨haccept, e⟩ := validate609_cases r w
    · exact .inl (by rw [e])
    · exact .inr (.inr ⟨hmodel, haccept, by rw [e]⟩)

theorem runValidator_deviceId (dev : Device) (r : DeviceRecord) (w : Cand) :
    (runValidator dev r w).2.deviceId = r.deviceId := by
  obtain e | ⟨-, -, e⟩ | ⟨-, -, e⟩ := runValidator_snd_cases dev r w <;> rw [e] <;> rfl

/-- A latched signature is not latched again (R257). -/
theorem runValidator_signature (dev : Device) {r : DeviceRecord} (w : Cand)
    (h : r.signature ≠ 0#16) : (runValidator dev r w).2.signature = r.signature := by
  obtain e | ⟨-, -, e⟩ | ⟨-, -, e⟩ := runValidator_snd_cases dev r w
  · rw [e]
  · rw [e, latch523]
  · rw [e, latch609, if_neg h]

/-- The legal values of the record of a device: those that `State.Inv` asks of it. -/
def DeviceRecord.Legal (r : DeviceRecord) : Device → Prop
  | .freezer => r.Inv523 .freezer Config.sigFreezer
  | .fridge => r.Inv523 .fridge Config.sigFridge
  | .outdoor => r.Inv609

theorem DeviceRecord.Legal.deviceId {r : DeviceRecord} {dev : Device} (h : r.Legal dev) :
    r.deviceId = dev := by
  cases dev
  case freezer | fridge => exact DeviceRecord.Inv523.deviceId h
  case outdoor => exact DeviceRecord.Inv609.deviceId h

theorem DeviceRecord.Legal.runValidator {r : DeviceRecord} {dev : Device} (h : r.Legal dev)
    (w : Cand) : (runValidator dev r w).2.Legal dev := by
  obtain e | ⟨hmodel, haccept, e⟩ | ⟨hmodel, haccept, e⟩ := runValidator_snd_cases dev r w
  · rwa [e]
  · rw [e]
    cases dev
    case freezer | fridge => exact latch523_inv h haccept
    case outdoor => cases hmodel
  · rw [e]
    cases dev
    case freezer | fridge => cases hmodel
    case outdoor => exact latch609_inv h haccept

/-- The invariant of the block, with one clause for its three records. -/
theorem State.inv_iff (s : State) :
    s.Inv ↔ s.f523.Inv ∧ s.f609.Inv ∧ ∀ dev, (s.device dev).Legal dev := by
  constructor
  · intro h
    refine ⟨h.f523, h.f609, fun dev => ?_⟩
    cases dev
    case freezer => exact h.freezer
    case fridge => exact h.fridge
    case outdoor => exact h.outdoor
  · rintro ⟨h523, h609, hdev⟩
    exact ⟨h523, h609, hdev .freezer, hdev .fridge, hdev .outdoor⟩

theorem State.Inv.legal {s : State} (h : s.Inv) (dev : Device) : (s.device dev).Legal dev :=
  (s.inv_iff.mp h).2.2 dev

/-! ### The temperature in the Payload (47_serializer.md R297) -/

/-- Settles O37: for a positive divisor `floorDiv` is the Euclidean division. -/
theorem floorDivIsTheGreatestQuotient : Obligations.FloorDivIsTheGreatestQuotient := by
  intro a b hb
  rw [floorDiv, Int.fdiv_eq_ediv_of_nonneg a hb.le]
  exact ⟨Int.ediv_mul_le a hb.ne', fun q hq => (Int.le_ediv_iff_mul_le hb).mpr hq⟩

theorem lt_floorDiv_add_one_mul (a : Int) {b : Int} (hb : 0 < b) : a < (floorDiv a b + 1) * b := by
  by_contra hnot
  have := (floorDivIsTheGreatestQuotient a b hb).2 _ (not_lt.mp hnot)
  omega

/-- Two's complement, the least significant byte first. -/
theorem bytesLE16_ofInt (q : Int) :
    bytesLE16 (BitVec.ofInt 16 q) = [BitVec.ofInt 8 q, BitVec.ofInt 8 (q / 256)] := by
  have low : (BitVec.ofInt 16 q).extractLsb' 0 8 = BitVec.ofInt 8 q := by
    rw [← BitVec.toNat_inj, BitVec.extractLsb'_toNat, Nat.shiftRight_zero, BitVec.toNat_ofInt,
      BitVec.toNat_ofInt]
    omega
  have high : (BitVec.ofInt 16 q).extractLsb' 8 8 = BitVec.ofInt 8 (q / 256) := by
    rw [← BitVec.toNat_inj, BitVec.extractLsb'_toNat, Nat.shiftRight_eq_div_pow,
      BitVec.toNat_ofInt, BitVec.toNat_ofInt]
    omega
  rw [bytesLE16, low, high]

theorem tempDiv_eq (m : Model) : tempDiv m = if m = .m523 then 18 else 20 := by
  cases m <;> rfl

/-- Bytes 10 and 11 of the image are the temperature's. -/
theorem createPayload_temperature (r : DeviceRecord) (status : Byte) :
    (createPayload r status)[10]? = (bytesLE16 (payloadTemperature r))[0]? ∧
    (createPayload r status)[11]? = (bytesLE16 (payloadTemperature r))[1]? :=
  ⟨rfl, rfl⟩

/-- Settles O36: the quotient is `floorDiv` of ten times the numerator; it fits 16 bits, since the
numerator does and the divisor is more than 10. -/
theorem createPayloadBatteryAndTemperature : Obligations.CreatePayloadBatteryAndTemperature := by
  intro s dev status r div
  have hdiv : 10 < div := by
    unfold div
    split_ifs <;> decide
  have hpos : 0 < div := by omega
  have htemp : payloadTemperature r = BitVec.ofInt 16 (floorDiv (r.tempNum.toInt * 10) div) := by
    rw [payloadTemperature, tempDiv_eq]
  obtain ⟨hle, -⟩ := floorDivIsTheGreatestQuotient (r.tempNum.toInt * 10) div hpos
  have hlt := lt_floorDiv_add_one_mul (r.tempNum.toInt * 10) hpos
  have hlo : -32768 ≤ r.tempNum.toInt := r.tempNum.le_toInt
  have hhi : r.tempNum.toInt < 32768 := r.tempNum.toInt_lt
  obtain ⟨hbyte10, hbyte11⟩ := createPayload_temperature r status
  rw [htemp, bytesLE16_ofInt] at hbyte10 hbyte11
  exact ⟨_, createPayload r status, _, exec_createPayload s dev status, rfl, rfl, rfl, hle, hlt,
    by nlinarith, by nlinarith, hbyte10, hbyte11⟩

end Sys2Proof.Machine
end

section
/-!
The step of the whole machine: what one event leaves (46_dispatcher.md R271, R282), what every
command keeps, how `step` takes a command from the stream, and what the host can do with it
(00_scope.md R9). What an event can do is said by `eventStep_cases`; what holds of every instruction
goes by the families of `Instr.by_family`.
-/

namespace Sys2Proof.Machine

/-! ### What an event leaves (R271, R282) -/

theorem accept_validateDevice_out_cand (s : State) (dev : Device) (w : Cand) (m : Model) :
    (accept (validateDevice s dev w) dev).out.cand m = s.out.cand m := by
  cases m <;> cases dev <;> rfl

/-- The candidates at the observation points are those that framing returned. -/
theorem eventStep_out_cand (s : State) (l : Level) (d : Duration) (m : Model) :
    (eventStep s l d).out.cand m = (frameEvent s l d).out.cand m := by
  obtain ⟨calls, e⟩ | ⟨dev, calls, -, -, e⟩ := eventStep_cases s l d
  · rw [e, withCalls_cand]
  · rw [e, accept_validateDevice_out_cand, withCalls_cand]

/-- Settles O24: the framing machines return no more bits than their blocks have. -/
theorem candidatesFitTheirLength : Obligations.CandidatesFitTheirLength := by
  intro s t l d hinv h
  rw [exec_event] at h
  cases h
  have hcand523 : (eventStep s l d).out.cand523 = (parseRf523 s.f523 l d).2 :=
    (eventStep_out_cand s l d .m523).trans (frameEvent_cand523 s l d)
  have hcand609 : (eventStep s l d).out.cand609 = (parseRf609 s.f609 l d).2 :=
    (eventStep_out_cand s l d .m609).trans (frameEvent_cand609 s l d)
  rw [hcand523, hcand609]
  exact ⟨(hinv.f523.parseRf523 l d).2, (hinv.f609.parseRf609 l d).2⟩

theorem eventStep_input (s : State) (l : Level) (d : Duration) :
    (eventStep s l d).input = s.input := by
  obtain ⟨calls, e⟩ | ⟨dev, calls, -, -, e⟩ := eventStep_cases s l d
  · rw [e, withCalls_input, frameEvent_input]
  · rw [e, accept_input, validateDevice_input, withCalls_input, frameEvent_input]

/-- All that a validator call can leave in the record of any device. -/
theorem validateDevice_device_cases (s : State) (dev dev' : Device) (w : Cand) :
    (validateDevice s dev w).device dev' = s.device dev' ∨
    (dev' = dev ∧
      (validateDevice s dev w).device dev' = (runValidator dev' (s.device dev') w).2) := by
  by_cases hdev : dev' = dev
  · subst hdev
    exact .inr ⟨rfl, validateDevice_device s dev' w⟩
  · exact .inl (validateDevice_device_of_ne s dev dev' w hdev)

/-- All that an event can leave in the record of a device: what stood there, or what an accepting
call of its own validator left, the device being named by its record at the output. -/
theorem eventStep_device_cases (s : State) (l : Level) (d : Duration) (dev : Device) :
    (eventStep s l d).device dev = s.device dev ∨
    ((eventStep s l d).out.accepted = some (s.device dev).deviceId ∧
      ∃ w, (eventStep s l d).device dev = (runValidator dev (s.device dev) w).2) := by
  obtain ⟨calls, e⟩ | ⟨dev', calls, -, -, e⟩ := eventStep_cases s l d
  · exact .inl (by rw [e, withCalls_device, frameEvent_device])
  · obtain hsame | ⟨rfl, hlatched⟩ := validateDevice_device_cases
      (withCalls (frameEvent s l d) calls) dev' dev
      ((frameEvent s l d).out.cand (Config.deviceModel dev'))
    · exact .inl (by rw [e, accept_device, hsame, withCalls_device, frameEvent_device])
    · rw [withCalls_device, frameEvent_device] at hlatched
      refine .inr ⟨?_, _, by rw [e, accept_device, hlatched]⟩
      rw [e, accept_out_accepted, hlatched, runValidator_deviceId]

/-- Settles O39: only an accepting call writes a record, and the record names its device. -/
theorem recordsChangeOnlyOnTheirAcceptance : Obligations.RecordsChangeOnlyOnTheirAcceptance := by
  intro s t l d dev hinv h hchanged
  rw [exec_event] at h
  cases h
  obtain hsame | ⟨haccepted, -⟩ := eventStep_device_cases s l d dev
  · exact absurd hsame hchanged
  · rw [haccepted, (hinv.legal dev).deviceId]

/-- Settles O40: `accept` clears both machines after framing. -/
theorem acceptanceClearsBothMachines : Obligations.AcceptanceClearsBothMachines := by
  intro s t l d h haccepted
  rw [exec_event] at h
  cases h
  obtain ⟨calls, e⟩ | ⟨dev, calls, -, -, e⟩ := eventStep_cases s l d
  · rw [e] at haccepted
    cases haccepted
  · rw [e, accept_f609, accept_f523, validateDevice_f523, withCalls_f523, frameEvent_f523]
    exact ⟨rfl, rfl⟩

/-- What `accept` puts out: the Payload and the strobe of one and the same record. -/
theorem accept_out_payload (s : State) (dev : Device) :
    (accept s dev).out.payload = some (createPayload (s.device dev) Config.statusOk) := rfl

theorem accept_out_statsStrobe (s : State) (dev : Device) :
    (accept s dev).out.statsStrobe = (accept s dev).out.accepted := rfl

/-- Settles O41: `accept` comes after the latch, and the record latched names its device. -/
theorem payloadIsTheLatchedRecord : Obligations.PayloadIsTheLatchedRecord := by
  intro s t l d hinv h
  rw [exec_event] at h
  cases h
  obtain ⟨calls, e⟩ | ⟨dev, calls, -, -, e⟩ := eventStep_cases s l d
  · rw [e]
    exact ⟨rfl, rfl⟩
  · have hid : ((validateDevice (withCalls (frameEvent s l d) calls) dev
        ((frameEvent s l d).out.cand (Config.deviceModel dev))).device dev).deviceId = dev := by
      rw [validateDevice_device, runValidator_deviceId, withCalls_device, frameEvent_device,
        (hinv.legal dev).deviceId]
    rw [e, accept_out_payload, accept_out_statsStrobe, accept_out_accepted, hid, Option.map_some,
      accept_device]
    exact ⟨rfl, rfl⟩

/-! ### What every command keeps -/

/-- Settles O44: `START` leaves the reset state, with the pending commands. -/
theorem startResetsEverything : Obligations.StartResetsEverything := fun s =>
  ⟨{ State.reset with input := s.input }, rfl, rfl, rfl, rfl, rfl, rfl, rfl, rfl⟩

theorem exec_start (s : State) : exec .start s = .next { State.reset with input := s.input } := rfl

/-- Settles O45: each family answers `next`, and none of its updates names the command stream. -/
theorem everyCommandCompletes : Obligations.EveryCommandCompletes := by
  intro i s
  induction i using Instr.by_family with
  | m523 c l d => exact ⟨_, exec_row523 c l d s, rfl⟩
  | m609 c l d => exact ⟨_, exec_row609 c l d s, rfl⟩
  | start => exact ⟨_, exec_start s, rfl⟩
  | event l d => exact ⟨_, exec_event l d s, eventStep_input s l d⟩
  | clear m =>
    cases m
    case m523 => exact ⟨_, exec_clear_m523 s, rfl⟩
    case m609 => exact ⟨_, exec_clear_m609 s, rfl⟩
  | validate dev w => exact ⟨_, exec_validate s dev w, setDevice_input _ _ _⟩
  | createPayload dev st => exact ⟨_, exec_createPayload s dev st, rfl⟩

/-- `VALIDATE` is one validator call after the outputs are emptied. -/
theorem exec_validate_eq_validateDevice (s : State) (dev : Device) (w : Cand) :
    exec (.validate dev w) s = .next (validateDevice { s with out := Output.empty } dev w) := rfl

/-- A latched OUTDOOR signature survives any validator call. -/
theorem validateDevice_outdoor_signature {s : State} (h : s.outdoor.signature ≠ 0#16)
    (dev : Device) (w : Cand) : (validateDevice s dev w).outdoor.signature = s.outdoor.signature := by
  obtain hsame | ⟨-, hlatched⟩ := validateDevice_device_cases s dev .outdoor w
  · exact congrArg DeviceRecord.signature hsame
  · exact (congrArg DeviceRecord.signature hlatched).trans (runValidator_signature .outdoor w h)

theorem eventStep_outdoor_signature {s : State} (h : s.outdoor.signature ≠ 0#16) (l : Level)
    (d : Duration) : (eventStep s l d).outdoor.signature = s.outdoor.signature := by
  obtain hsame | ⟨-, w, hlatched⟩ := eventStep_device_cases s l d .outdoor
  · exact congrArg DeviceRecord.signature hsame
  · exact (congrArg DeviceRecord.signature hlatched).trans (runValidator_signature .outdoor w h)

/-- Settles O34: of the commands but `START` only an event and `VALIDATE` write the record, through
the validator, which latches a signature where none is. -/
theorem latchedSignatureStaysUntilStart : Obligations.LatchedSignatureStaysUntilStart := by
  intro i s t hlatched hstart h
  induction i using Instr.by_family with
  | m523 c l d => rw [exec_row523] at h; cases h; rfl
  | m609 c l d => rw [exec_row609] at h; cases h; rfl
  | start => exact absurd rfl hstart
  | event l d => rw [exec_event] at h; cases h; exact eventStep_outdoor_signature hlatched l d
  | clear m =>
    cases m
    case m523 => rw [exec_clear_m523] at h; cases h; rfl
    case m609 => rw [exec_clear_m609] at h; cases h; rfl
  | validate dev w =>
    rw [exec_validate_eq_validateDevice] at h
    cases h
    exact validateDevice_outdoor_signature (s := { s with out := Output.empty }) hlatched dev w
  | createPayload dev st => rw [exec_createPayload] at h; cases h; rfl

/-! ### The invariant of the block -/

/-- Settles O46: both buffers empty, no chunk open, the identifiers and signatures as R36 gives
them, the measurements 0. -/
theorem resetMeetsTheInvariant : Obligations.ResetMeetsTheInvariant where
  f523 := ⟨Nat.zero_le 47, bits_of_zero _ _, nofun, Nat.zero_le 3⟩
  f609 := framing609_reset_inv
  freezer := ⟨rfl, rfl, rfl, by decide, by decide, rfl⟩
  fridge := ⟨rfl, rfl, rfl, by decide, by decide, rfl⟩
  outdoor := ⟨rfl, rfl, by decide, by decide, by decide, by decide⟩

/-- The two fields of the model's own stand outside the invariant. -/
theorem State.Inv.boundary {s : State} (h : s.Inv) (input : List Command) (out : Output) :
    State.Inv { s with input := input, out := out } :=
  ⟨h.f523, h.f609, h.freezer, h.fridge, h.outdoor⟩

theorem State.Inv.framed523 {s : State} (h : s.Inv) (c : Class523) {r : Framing523 × Cand}
    (hr : r.1.Inv) : (framed523 s c r).Inv :=
  ⟨hr, h.f609, h.freezer, h.fridge, h.outdoor⟩

theorem State.Inv.framed609 {s : State} (h : s.Inv) (c : Class609) {r : Framing609 × Cand}
    (hr : r.1.Inv) : (framed609 s c r).Inv :=
  ⟨h.f523, hr, h.freezer, h.fridge, h.outdoor⟩

theorem State.Inv.frameEvent {s : State} (h : s.Inv) (l : Level) (d : Duration) :
    (frameEvent s l d).Inv :=
  ⟨(h.f523.parseRf523 l d).1, (h.f609.parseRf609 l d).1, h.freezer, h.fridge, h.outdoor⟩

theorem State.Inv.validateDevice {s : State} (h : s.Inv) (dev : Device) (w : Cand) :
    (validateDevice s dev w).Inv := by
  refine (State.inv_iff _).mpr ⟨?f523, ?f609, fun dev' => ?legal⟩
  case f523 => rw [validateDevice_f523]; exact h.f523
  case f609 => rw [validateDevice_f609]; exact h.f609
  case legal =>
    obtain hsame | ⟨-, hlatched⟩ := validateDevice_device_cases s dev dev' w
    · rw [hsame]; exact h.legal dev'
    · rw [hlatched]; exact (h.legal dev').runValidator w

theorem State.Inv.accept {s : State} (h : s.Inv) (dev : Device) : (accept s dev).Inv :=
  ⟨clear523_inv _, framing609_reset_inv, h.freezer, h.fridge, h.outdoor⟩

theorem State.Inv.eventStep {s : State} (h : s.Inv) (l : Level) (d : Duration) :
    (eventStep s l d).Inv := by
  have hframed (calls : List (Device × Result)) :
      (withCalls (Machine.frameEvent s l d) calls).Inv := (h.frameEvent l d).boundary _ _
  obtain ⟨calls, e⟩ | ⟨dev, calls, -, -, e⟩ := eventStep_cases s l d
  · rw [e]; exact hframed calls
  · rw [e]; exact ((hframed calls).validateDevice dev _).accept dev

/-- Every command keeps the invariant. -/
theorem State.Inv.exec {s t : State} (hinv : s.Inv) {i : Instr} (h : exec i s = .next t) :
    t.Inv := by
  induction i using Instr.by_family with
  | m523 c l d => rw [exec_row523] at h; cases h; exact hinv.framed523 c (hinv.f523.on523 c)
  | m609 c l d => rw [exec_row609] at h; cases h; exact hinv.framed609 c (hinv.f609.on609 c)
  | start => rw [exec_start] at h; cases h; exact resetMeetsTheInvariant.boundary _ _
  | event l d => rw [exec_event] at h; cases h; exact hinv.eventStep l d
  | clear m =>
    cases m
    case m523 =>
      rw [exec_clear_m523] at h
      cases h
      exact ⟨clear523_inv _, hinv.f609, hinv.freezer, hinv.fridge, hinv.outdoor⟩
    case m609 =>
      rw [exec_clear_m609] at h
      cases h
      exact ⟨hinv.f523, framing609_reset_inv, hinv.freezer, hinv.fridge, hinv.outdoor⟩
  | validate dev w =>
    rw [exec_validate_eq_validateDevice] at h
    cases h
    exact (hinv.boundary _ _).validateDevice dev w
  | createPayload dev st => rw [exec_createPayload] at h; cases h; exact hinv.boundary _ _

/-! ### How a step takes a command -/

theorem step_of_no_command {s : State} (h : s.input = []) : step s = .next s := by
  simp [step, fetch, h]

section Head
variable {s : State} {who : Issuer} {f : Frame} {rest : List Command}

theorem step_of_decodeFor_ok {i : Instr} (hhead : s.input = ⟨who, f⟩ :: rest)
    (h : decodeFor who f = .ok i) : step s = exec i { s with input := rest } := by
  simp [step, fetch, hhead, h]

theorem step_of_decodeFor_rejected {e : DecodeError} (hhead : s.input = ⟨who, f⟩ :: rest)
    (h : decodeFor who f = .rejected e) : step s = .refused (.undecodable e) := by
  simp [step, fetch, hhead, h]

end Head

theorem decodeFor_of_rejected {f : Frame} {e : DecodeError} (who : Issuer)
    (h : decode f = .rejected e) : decodeFor who f = .rejected e := by
  simp [decodeFor, h]

theorem decodeFor_of_not_issuer {who : Issuer} {f : Frame} {i : Instr} (h : decode f = .ok i)
    (hissuer : who ∉ i.issuers) : decodeFor who f = .rejected .wrongIssuer := by
  simp [decodeFor, h, hissuer]

/-- Settles O1. -/
theorem stepRunsDecodedInstruction : Obligations.StepRunsDecodedInstruction := by
  intro s who f rest i hhead hdecode hissuer
  exact step_of_decodeFor_ok hhead ((decodeFor_ok who f i).mpr ⟨hdecode, hissuer⟩)

/-- Settles O2: the empty stream, and the two ways in which `decodeFor` rejects. -/
theorem stepIdlesOrRefusesByName : Obligations.StepIdlesOrRefusesByName := by
  refine ⟨fun s hempty => ?idle, fun s who f rest e hhead hdecode => ?undecodable,
    fun s who f rest i hhead hdecode hissuer => ?wrongIssuer⟩
  case idle => exact step_of_no_command hempty
  case undecodable => exact step_of_decodeFor_rejected hhead (decodeFor_of_rejected who hdecode)
  case wrongIssuer =>
    exact step_of_decodeFor_rejected hhead (decodeFor_of_not_issuer hdecode hissuer)

/-- All that a step with a command pending can do. -/
theorem step_cases {s : State} {who : Issuer} {f : Frame} {rest : List Command}
    (hhead : s.input = ⟨who, f⟩ :: rest) :
    (∃ i, decode f = .ok i ∧ who ∈ i.issuers ∧ step s = exec i { s with input := rest }) ∨
    (∃ e, step s = .refused (.undecodable e)) := by
  cases h : decodeFor who f with
  | ok i =>
    obtain ⟨hdecode, hissuer⟩ := (decodeFor_ok who f i).mp h
    exact .inl ⟨i, hdecode, hissuer, step_of_decodeFor_ok hhead h⟩
  | rejected e => exact .inr ⟨e, step_of_decodeFor_rejected hhead h⟩

/-- Settles O47: an idle step changes nothing, and every command keeps the invariant. -/
theorem stepKeepsTheInvariant : Obligations.StepKeepsTheInvariant := by
  intro s t hinv h
  cases hinput : s.input with
  | nil =>
    rw [step_of_no_command hinput] at h
    cases h
    exact hinv
  | cons c rest =>
    obtain ⟨i, -, -, e⟩ | ⟨reason, e⟩ := step_cases (who := c.issuer) (f := c.frame) hinput
    · exact (hinv.boundary rest s.out).exec (e.symm.trans h)
    · rw [e] at h
      cases h

/-! ### The commands of the host (00_scope.md R9) -/

theorem row523_issuers (c : Class523) (l : Level) (d : Duration) :
    (row523 c l d).issuers = [.dispatcher] := by
  cases c <;> rfl

theorem row609_issuers (c : Class609) (l : Level) (d : Duration) :
    (row609 c l d).issuers = [.dispatcher] := by
  cases c <;> rfl

/-- What the host issues is one of its three things. -/
theorem exists_hostCommand_of_host_mem {i : Instr} (h : Issuer.host ∈ i.issuers) :
    ∃ c : HostCommand, i = c.instr := by
  induction i using Instr.by_family with
  | m523 c l d => rw [row523_issuers] at h; exact absurd h (by decide)
  | m609 c l d => rw [row609_issuers] at h; exact absurd h (by decide)
  | start => exact ⟨.start, rfl⟩
  | event l d => exact ⟨.event l d, rfl⟩
  | clear m => exact absurd h (by simp [Instr.issuers])
  | validate dev w => exact absurd h (by simp [Instr.issuers])
  | createPayload dev st => exact ⟨.createPayload dev st, rfl⟩

theorem hostCommand_wellFormed (c : HostCommand) : c.instr.wellFormed = true := by
  cases c <;> rfl

/-- A command of the host at the head is carried out. -/
theorem step_of_hostCommand {s : State} {c : HostCommand} {rest : List Command}
    (hhead : s.input = c.command :: rest) : step s = exec c.instr { s with input := rest } :=
  stepRunsDecodedInstruction s .host (encode c.instr) rest c.instr hhead
    (decodeOfEncode c.instr (hostCommand_wellFormed c)) (host_mem_issuers c)

/-- All that a step can do with a head of the host's. -/
theorem step_host_cases {s : State} {f : Frame} {rest : List Command}
    (hhead : s.input = ⟨.host, f⟩ :: rest) :
    (∃ c : HostCommand, f = encode c.instr ∧ step s = exec c.instr { s with input := rest }) ∨
    (∃ e, step s = .refused (.undecodable e)) := by
  obtain ⟨i, hdecode, hissuer, e⟩ | hrefused := step_cases hhead
  · obtain ⟨c, rfl⟩ := exists_hostCommand_of_host_mem hissuer
    exact .inl ⟨c, (encodeOfDecode f c.instr hdecode).2.symm, e⟩
  · exact .inr hrefused

/-- Settles O49: the head encodes one of the three things or is refused, and each of the three
decodes and completes. -/
theorem hostDoesExactlyThreeThings : Obligations.HostDoesExactlyThreeThings := by
  refine ⟨fun s f rest hhead => ?only, fun s c rest hhead => ?each⟩
  case only =>
    obtain ⟨c, hframe, e⟩ | hrefused := step_host_cases hhead
    · cases c with
      | event l d => exact .inl ⟨l, d, hframe, e⟩
      | start => exact .inr (.inl ⟨hframe, e⟩)
      | createPayload dev st => exact .inr (.inr (.inl ⟨dev, st, hframe, e⟩))
    · exact .inr (.inr (.inr hrefused))
  case each =>
    obtain ⟨t, ht, -⟩ := everyCommandCompletes c.instr { s with input := rest }
    exact ⟨t, (step_of_hostCommand hhead).trans ht, ht⟩

/-- Settles O50: both commands have the dispatcher as their one issuer. -/
theorem onlyTheDispatcherClearsAndValidates : Obligations.OnlyTheDispatcherClearsAndValidates := by
  intro s who f rest i hhead hdecode hi
  have hissuers : i.issuers = [.dispatcher] := by
    obtain ⟨m, rfl⟩ | ⟨dev, w, rfl⟩ := hi <;> rfl
  refine ⟨?_, ?_⟩
  · rintro rfl
    exact stepRunsDecodedInstruction s _ f rest i hhead hdecode (by rw [hissuers]; decide)
  · rintro rfl
    exact stepIdlesOrRefusesByName.2.2 s _ f rest i hhead hdecode (by rw [hissuers]; decide)

theorem hostIssue_hostDriven {s : State} (c : HostCommand) (h : s.HostDriven) :
    (hostIssue c s).HostDriven := by
  obtain ⟨cs, hcs⟩ := h
  exact ⟨cs ++ [c], by simp [hostIssue, hcs]⟩

/-- Settles O51: a step takes the head, which is the host's and completes, and no command touches
what is left of the stream. -/
theorem hostDrivenMachinesNeverStop : Obligations.HostDrivenMachinesNeverStop := by
  refine ⟨⟨[], rfl⟩, fun s c h => ⟨hostIssue_hostDriven c h, rfl⟩, fun s ⟨cs, hcs⟩ => ?_⟩
  cases cs with
  | nil => exact ⟨s, step_of_no_command hcs, ⟨[], hcs⟩, by rw [hcs]; rfl⟩
  | cons c rest =>
    obtain ⟨t, ht, hinput⟩ :=
      everyCommandCompletes c.instr { s with input := rest.map HostCommand.command }
    exact ⟨t, (step_of_hostCommand hcs).trans ht, ⟨rest, hinput⟩, by rw [hcs, hinput]; rfl⟩

/-- Settles O52: a request for a Payload writes no record, and an event only that of the device it
names. -/
theorem hostWritesNoDeviceRecord : Obligations.HostWritesNoDeviceRecord := by
  intro s t f rest dev hinv hhead h hchanged
  obtain ⟨c, hframe, e⟩ | ⟨reason, e⟩ := step_host_cases hhead
  · rw [e] at h
    cases c with
    | event l d =>
      refine .inr ⟨⟨l, d, hframe⟩, recordsChangeOnlyOnTheirAcceptance _ t l d dev
        (hinv.boundary rest s.out) h ?_⟩
      cases dev <;> exact hchanged
    | start => exact .inl hframe
    | createPayload dev' st =>
      cases h
      exact absurd (by cases dev <;> rfl) hchanged
  · rw [e] at h
    cases h

end Sys2Proof.Machine
end

section
/-!
`WORD523` and `WORD609` (30_encoding.md section 4): the framing machines return the word whose bits
they are fed (42_framing_523.md R182, 43_framing_609.md R222). A bit is a pair of events of which
the second stores it (`feed523_bit523`); by induction on the bits fed, the buffer holds just the bits
of the word received so far (`Collected523`), until the last one emits it.
-/

namespace Sys2Proof.Machine

/-! ### The buffer -/

/-- Buffer `b` holds the `n` highest bits of a word of `len` bits, and nothing else. -/
def HoldsTop {len : Nat} (w : BitVec len) (n : Nat) (b : BitVec 64) : Prop :=
  ∀ i, b.getLsbD i = (decide (len - n ≤ i) && w.getLsbD i)

theorem holdsTop_zero {len : Nat} (w : BitVec len) : HoldsTop w 0 0#64 := by
  intro i
  by_cases hi : len ≤ i <;> simp [hi]

/-- The next bit of the word belongs at position `len - 1 - n` (R164, R204). -/
theorem HoldsTop.stored {len n : Nat} {w : BitVec len} {b : BitVec 64} (h : HoldsTop w n b)
    (hn : n < len) (hlen : len ≤ 64) :
    HoldsTop w (n + 1)
      (if w.getLsbD (len - 1 - n) then b ||| (1#64 <<< (len - 1 - n)) else b) := by
  intro i
  rw [getLsbD_stored b _ (by omega), h i]
  by_cases hi : i = len - 1 - n
  · have hold : ¬ len - n ≤ i := by omega
    have hnew : len - (n + 1) ≤ i := by omega
    simp [hold, hnew, ← hi]
  · have hsame : len - (n + 1) ≤ i ↔ len - n ≤ i := by omega
    simp [hi, hsame]

theorem HoldsTop.eq_setWidth {len : Nat} {w : BitVec len} {b : BitVec 64} (h : HoldsTop w len b) :
    b = w.setWidth 64 := by
  apply BitVec.eq_of_getLsbD_eq
  intro i hi
  rw [h i]
  simp [hi]

/-! ### Model 00523 -/

theorem feed523_append (evs evs' : List Event) (f : Framing523) :
    feed523 (evs ++ evs') f =
      ((feed523 evs' (feed523 evs f).1).1,
        (feed523 evs f).2 ++ (feed523 evs' (feed523 evs f).1).2) := by
  induction evs generalizing f with
  | nil => rfl
  | cons e rest ih => simp only [List.cons_append, feed523, ih]

/-- One bit of a `WORD523`. -/
def bit523 (bit : Bool) : List Event := if bit then o523 else z523

/-- The record after the `OFF` pulse of a bit (R174, R175): the pulse's width says which bit. -/
def armed523 (f : Framing523) (bit : Bool) : Framing523 :=
  { otherClass523 f with lastClass := if bit then .bit1Off else .bit0Off }

@[simp] theorem armed523_bitstream (f : Framing523) (bit : Bool) :
    (armed523 f bit).bitstream = f.bitstream := by rw [armed523, otherClass523_eq]
@[simp] theorem armed523_bitstreamSize (f : Framing523) (bit : Bool) :
    (armed523 f bit).bitstreamSize = f.bitstreamSize := by rw [armed523, otherClass523_eq]
@[simp] theorem armed523_chunkOpen (f : Framing523) (bit : Bool) :
    (armed523 f bit).chunkOpen = f.chunkOpen := by rw [armed523, otherClass523_eq]

/-- In an open chunk with room, the first event of a bit arms the second, which stores it. -/
theorem feed523_bit523 (f : Framing523) (bit : Bool) (hopen : f.chunkOpen = true)
    (hroom : f.bitstreamSize.toNat < 48) :
    feed523 (bit523 bit) f =
      ({ (storeBit523 (armed523 f bit) bit).1 with
          lastClass := if bit then .bit1On else .bit0On },
        [0#64, (storeBit523 (armed523 f bit) bit).2]) := by
  cases bit
  case false =>
    have off : parseRf523 f false 200#32 = (armed523 f false, 0#64) := parseRf523_eq f _ _
    have on : parseRf523 (armed523 f false) true 400#32 =
        withLast523 (storeBit523 (armed523 f false) false) .bit0On :=
      (parseRf523_eq _ _ _).trans
        (onBit0On523_takes _ ⟨by simpa using hopen, rfl, by simpa using hroom⟩)
    change feed523 [ev false 200, ev true 400] f = _
    simp only [feed523, ev, off, on]
    rfl
  case true =>
    have off : parseRf523 f false 400#32 = (armed523 f true, 0#64) := parseRf523_eq f _ _
    have on : parseRf523 (armed523 f true) true 200#32 =
        withLast523 (storeBit523 (armed523 f true) true) .bit1On :=
      (parseRf523_eq _ _ _).trans
        (onBit1On523_takes _ ⟨by simpa using hopen, rfl, by simpa using hroom⟩)
    change feed523 [ev false 400, ev true 200] f = _
    simp only [feed523, ev, off, on]
    rfl

/-- The record after `n` bits of the word, in an open chunk. -/
structure Collected523 (w : BitVec 48) (n : Nat) (f : Framing523) : Prop where
  chunkOpen : f.chunkOpen = true
  size : f.bitstreamSize.toNat = n
  bits : HoldsTop w n f.bitstream

/-- A bit that is not the last is collected, and nothing is returned. -/
theorem Collected523.next {w : BitVec 48} {n : Nat} {f : Framing523} (h : Collected523 w n f)
    (hn : n + 1 < 48) :
    (feed523 (bit523 (w.getLsbD (47 - n))) f).2 = [0#64, 0#64] ∧
      Collected523 w (n + 1) (feed523 (bit523 (w.getLsbD (47 - n))) f).1 := by
  obtain ⟨hopen, rfl, hbits⟩ := h
  rw [feed523_bit523 f _ hopen (by omega), storeBit523_grows _ _ (by simpa using hn)]
  refine ⟨rfl, ⟨by simpa using hopen, ?size, ?bits⟩⟩
  case size => simpa using size_succ f.bitstreamSize (by omega)
  case bits => simpa using hbits.stored (by omega) (by decide)

/-- The 48th bit emits the word and leaves an empty buffer in the open chunk. -/
theorem Collected523.last {w : BitVec 48} {f : Framing523} (h : Collected523 w 47 f) :
    (feed523 (bit523 (w.getLsbD 0)) f).2 = [0#64, w.setWidth 64] ∧
      (feed523 (bit523 (w.getLsbD 0)) f).1.bitstreamSize = 0#8 ∧
      (feed523 (bit523 (w.getLsbD 0)) f).1.chunkOpen = true := by
  obtain ⟨hopen, hsize, hbits⟩ := h
  have hword := (hbits.stored (by decide) (by decide)).eq_setWidth
  rw [feed523_bit523 f _ hopen (by omega), storeBit523_emits _ _ (by simp [hsize])]
  refine ⟨?_, rfl, by simpa using hopen⟩
  rw [← hword, armed523_bitstream, armed523_bitstreamSize, hsize]

/-- The first `n` bits of `WORD523 w`. -/
def bits523 (w : BitVec 48) (n : Nat) : List Event :=
  (List.range n).flatMap fun k => bit523 (w.getLsbD (47 - k))

theorem bits523_succ (w : BitVec 48) (n : Nat) :
    bits523 w (n + 1) = bits523 w n ++ bit523 (w.getLsbD (47 - n)) := by
  simp [bits523, List.range_succ]

theorem word523_eq (w : BitVec 48) : word523 w = bits523 w 47 ++ bit523 (w.getLsbD 0) :=
  bits523_succ w 47

theorem feed523_bits523 {w : BitVec 48} {f : Framing523} (h : Collected523 w 0 f) {n : Nat}
    (hn : n < 48) :
    (feed523 (bits523 w n) f).2 = List.replicate (2 * n) 0#64 ∧
      Collected523 w n (feed523 (bits523 w n) f).1 := by
  induction n with
  | zero => exact ⟨rfl, h⟩
  | succ n ih =>
    obtain ⟨hreturned, hcollected⟩ := ih (by omega)
    obtain ⟨hpair, hnext⟩ := hcollected.next hn
    rw [bits523_succ, feed523_append, hreturned, hpair]
    exact ⟨(List.replicate_append_replicate (n := 2 * n) (m := 2)), hnext⟩

/-- Settles O27: 47 bits collected, and the last. -/
theorem word523RoundTrips : Obligations.Word523RoundTrips := by
  intro f w hopen hsize hbuffer
  have hstart : Collected523 w 0 f :=
    ⟨hopen, by rw [hsize]; rfl, by rw [hbuffer]; exact holdsTop_zero w⟩
  obtain ⟨hreturned, hcollected⟩ := feed523_bits523 hstart (n := 47) (by decide)
  obtain ⟨hpair, hempty, hstill⟩ := hcollected.last
  rw [word523_eq, feed523_append, hreturned, hpair]
  exact ⟨rfl, hempty, hstill⟩

/-! ### Model 00609 -/

theorem feed609_append (evs evs' : List Event) (f : Framing609) :
    feed609 (evs ++ evs') f =
      ((feed609 evs' (feed609 evs f).1).1,
        (feed609 evs f).2 ++ (feed609 evs' (feed609 evs f).1).2) := by
  induction evs generalizing f with
  | nil => rfl
  | cons e rest ih => simp only [List.cons_append, feed609, ih]

/-- One bit of a `WORD609`. -/
def bit609 (bit : Bool) : List Event := if bit then o609 else z609

/-- The record after the `OFF` pulse of a bit (R210); here the second pulse says which bit. -/
def armed609 (f : Framing609) : Framing609 := { f with lastClass := .off }

/-- In an open bitstream with room, the first event of a bit arms the second, which stores it. -/
theorem feed609_bit609 (f : Framing609) (bit : Bool) (hchunk : f.chunkOpen = true)
    (hopen : f.bitstreamOpen = true) (hroom : f.bitstreamSize.toNat < 40) :
    feed609 (bit609 bit) f =
      ({ (storeBit609 (armed609 f) bit).1 with lastClass := if bit then .bit1 else .bit0 },
        [0#64, (storeBit609 (armed609 f) bit).2]) := by
  have off : parseRf609 f false 800#32 = (armed609 f, 0#64) := parseRf609_eq f _ _
  have takes : takesBit609 (armed609 f) = true :=
    (takesBit609_iff _).mpr ⟨rfl, hchunk, hopen, hroom⟩
  cases bit
  case false =>
    have on : parseRf609 (armed609 f) true 800#32 =
        withLast609 (storeBit609 (armed609 f) false) .bit0 :=
      (parseRf609_eq _ _ _).trans (onBit0609_takes _ takes)
    change feed609 [ev false 800, ev true 800] f = _
    simp only [feed609, ev, off, on]
    rfl
  case true =>
    have on : parseRf609 (armed609 f) true 1800#32 =
        withLast609 (storeBit609 (armed609 f) true) .bit1 :=
      (parseRf609_eq _ _ _).trans (onBit1609_takes _ takes)
    change feed609 [ev false 800, ev true 1800] f = _
    simp only [feed609, ev, off, on]
    rfl

/-- The record after `n` bits of the word, in an open bitstream. -/
structure Collected609 (w : BitVec 40) (n : Nat) (f : Framing609) : Prop where
  chunkOpen : f.chunkOpen = true
  bitstreamOpen : f.bitstreamOpen = true
  size : f.bitstreamSize.toNat = n
  bits : HoldsTop w n f.bitstream

/-- A bit that is not the last is collected, and nothing is returned. -/
theorem Collected609.next {w : BitVec 40} {n : Nat} {f : Framing609} (h : Collected609 w n f)
    (hn : n + 1 < 40) :
    (feed609 (bit609 (w.getLsbD (39 - n))) f).2 = [0#64, 0#64] ∧
      Collected609 w (n + 1) (feed609 (bit609 (w.getLsbD (39 - n))) f).1 := by
  obtain ⟨hchunk, hopen, rfl, hbits⟩ := h
  rw [feed609_bit609 f _ hchunk hopen (by omega), storeBit609_grows (armed609 f) _ hn]
  exact ⟨rfl, ⟨hchunk, hopen, size_succ f.bitstreamSize (by omega),
    hbits.stored (by omega) (by decide)⟩⟩

/-- The 40th bit emits the word and closes the bitstream. -/
theorem Collected609.last {w : BitVec 40} {f : Framing609} (h : Collected609 w 39 f) :
    (feed609 (bit609 (w.getLsbD 0)) f).2 = [0#64, w.setWidth 64] ∧
      (feed609 (bit609 (w.getLsbD 0)) f).1.bitstreamSize = 0#8 ∧
      (feed609 (bit609 (w.getLsbD 0)) f).1.bitstreamOpen = false := by
  obtain ⟨hchunk, hopen, hsize, hbits⟩ := h
  have hlast : (armed609 f).bitstreamSize.toNat = 39 := hsize
  have hword := (hbits.stored (by decide) (by decide)).eq_setWidth
  rw [feed609_bit609 f _ hchunk hopen (by omega), storeBit609_emits (armed609 f) _ (by omega),
    ← hword, hlast]
  exact ⟨rfl, rfl, rfl⟩

/-- The first `n` bits of `WORD609 w`. -/
def bits609 (w : BitVec 40) (n : Nat) : List Event :=
  (List.range n).flatMap fun k => bit609 (w.getLsbD (39 - k))

theorem bits609_succ (w : BitVec 40) (n : Nat) :
    bits609 w (n + 1) = bits609 w n ++ bit609 (w.getLsbD (39 - n)) := by
  simp [bits609, List.range_succ]

theorem word609_eq (w : BitVec 40) : word609 w = bits609 w 39 ++ bit609 (w.getLsbD 0) :=
  bits609_succ w 39

theorem feed609_bits609 {w : BitVec 40} {f : Framing609} (h : Collected609 w 0 f) {n : Nat}
    (hn : n < 40) :
    (feed609 (bits609 w n) f).2 = List.replicate (2 * n) 0#64 ∧
      Collected609 w n (feed609 (bits609 w n) f).1 := by
  induction n with
  | zero => exact ⟨rfl, h⟩
  | succ n ih =>
    obtain ⟨hreturned, hcollected⟩ := ih (by omega)
    obtain ⟨hpair, hnext⟩ := hcollected.next hn
    rw [bits609_succ, feed609_append, hreturned, hpair]
    exact ⟨(List.replicate_append_replicate (n := 2 * n) (m := 2)), hnext⟩

/-- Settles O28: 39 bits collected, and the last. -/
theorem word609RoundTrips : Obligations.Word609RoundTrips := by
  intro f w hchunk hopen hsize hbuffer
  have hstart : Collected609 w 0 f :=
    ⟨hchunk, hopen, by rw [hsize]; rfl, by rw [hbuffer]; exact holdsTop_zero w⟩
  obtain ⟨hreturned, hcollected⟩ := feed609_bits609 hstart (n := 39) (by decide)
  obtain ⟨hpair, hempty, hclosed⟩ := hcollected.last
  rw [word609_eq, feed609_append, hreturned, hpair]
  exact ⟨rfl, hempty, hclosed⟩

end Sys2Proof.Machine
end

section
/-!
The poll loop `available` (48_session_interface.md R311, R312): by induction on the events,
with what one event does first, since a delivery that starts with it goes on from the state after
it.
-/

namespace Sys2Proof.Machine

theorem deliver_cons (e : Event) (evs : List Event) (s : State) :
    deliver (e :: evs) s = deliver evs (eventStep s e.level e.duration) := rfl

theorem available_of_accepted {e : Event} {rest : List Event} {s : State}
    (h : (eventStep s e.level e.duration).out.accepted.isSome = true) :
    available (e :: rest) s =
      ((eventStep s e.level e.duration).out.payload, eventStep s e.level e.duration, rest) := by
  rw [available, if_pos h]

theorem available_of_not_accepted {e : Event} {rest : List Event} {s : State}
    (h : (eventStep s e.level e.duration).out.accepted = none) :
    available (e :: rest) s = available rest (eventStep s e.level e.duration) := by
  rw [available, if_neg (by simp [h])]

/-- No acceptance in the first `n` of the events. -/
def NoneAccepted (evs : List Event) (n : Nat) (s : State) : Prop :=
  ∀ k < n, (deliver (evs.take (k + 1)) s).out.accepted = none

/-- An event that is not accepted, before events of which none is. -/
theorem NoneAccepted.cons {e : Event} {evs : List Event} {n : Nat} {s : State}
    (hfirst : (eventStep s e.level e.duration).out.accepted = none)
    (h : NoneAccepted evs n (eventStep s e.level e.duration)) :
    NoneAccepted (e :: evs) (n + 1) s := by
  intro k hk
  rw [List.take_succ_cons, deliver_cons]
  cases k with
  | zero => exact hfirst
  | succ k => exact h k (by omega)

/-- Whichever way the open convention stands (R312, D23). -/
theorem timeoutReport_cases (s : State) :
    timeoutReport s = none ∨
      ∃ dev : Device, timeoutReport s = some (createPayload (s.device dev) 3#8) := by
  unfold timeoutReport
  cases Config.hostTimeoutConvention with
  | emitTimeoutPayload => exact .inr ⟨Config.timeoutDevice, rfl⟩
  | returnNone => exact .inl rfl

/-- Settles O48: an event that is accepted ends the loop; one that is not joins the events before
the first acceptance, or those of a timeout. -/
theorem availableStopsAtTheFirstAcceptance : Obligations.AvailableStopsAtTheFirstAcceptance := by
  intro evs
  induction evs with
  | nil => exact fun s => .inr ⟨nofun, rfl, timeoutReport_cases s⟩
  | cons e rest ih =>
    intro s
    cases h : (eventStep s e.level e.duration).out.accepted with
    | some dev =>
      have haccepted : (eventStep s e.level e.duration).out.accepted.isSome = true := by simp [h]
      exact .inl ⟨[], e, rest, _, rfl, nofun, rfl, haccepted, available_of_accepted haccepted⟩
    | none =>
      rw [available_of_not_accepted h, deliver_cons]
      obtain ⟨before, e', after, t, rfl, hnone, ht, haccepted, hanswer⟩ | ⟨hnone, htimeout⟩ :=
        ih (eventStep s e.level e.duration)
      · exact .inl ⟨e :: before, e', after, t, rfl, NoneAccepted.cons h hnone, ht, haccepted,
          hanswer⟩
      · exact .inr ⟨NoneAccepted.cons h hnone, htimeout⟩

end Sys2Proof.Machine
end
